-- ==== Sys2Proof/Word.lean ====
section
/-! DEFINITION. The word and byte types of the core (spec R2, R8, R14). -/

namespace Sys2Proof

/-- XLEN = 64: registers, the program counter, addresses and extended immediates (R2). -/
abbrev Word := BitVec 64

/-- The addressable unit of memory (R35). -/
abbrev Byte := BitVec 8

/-- One instruction word: ILEN = 32 (R8, R61). -/
abbrev InstrWord := BitVec 32

/-- `bool(c)` of R14: 1 if the condition holds, else 0, as a 64-bit value. -/
def boolWord (c : Bool) : Word := if c then 1#64 else 0#64

end Sys2Proof
end

