-- ==== Sys2Proof/Syntax.lean ====
section
/-! DEFINITION. The decoded instruction (spec 30_encoding.md R103) with the operand fields opcode_table.json gives each
row, the instruction formats, and what a decode fault carries (R101). -/

namespace Sys2Proof

/-- An integer register identifier x0 to x31 (R22). -/
structure XReg where
  idx : BitVec 5
  deriving DecidableEq, Repr

/-- A floating-point register identifier f0 to f31, disjoint from the integer ones (R22). -/
structure FReg where
  idx : BitVec 5
  deriving DecidableEq, Repr

/-- The rounding modes of R81; the reserved codes 101 and 110 are carried by the invalid marker. -/
inductive RoundingMode where
  | rne
  | rtz
  | rdn
  | rup
  | rmm
  | invalid (code : BitVec 3)
  | dyn
  deriving DecidableEq, Repr

/-- The seven encoding formats of R63; an R4 word is extracted through the R layout (R67). -/
inductive Format where
  | r
  | r4
  | i
  | s
  | b
  | u
  | j
  deriving DecidableEq, Repr

/-- The fields a format extracts from a word, as a `NoVariant` fault carries them (R101).
An R4 word reports as R; no word of format U or J is ever refused, so those two shapes appear in no fault (C5). -/
inductive FormatFields where
  | r (funct3 : BitVec 3) (rd rs1 rs2 : BitVec 5) (funct7 : BitVec 7)
  | i (funct3 : BitVec 3) (rd rs1 : BitVec 5) (imm : Word)
  | s (funct3 : BitVec 3) (rs1 rs2 : BitVec 5) (imm : Word)
  | b (funct3 : BitVec 3) (rs1 rs2 : BitVec 5) (imm : Word)
  | u (rd : BitVec 5) (imm : Word)
  | j (rd : BitVec 5) (imm : Word)
  deriving DecidableEq, Repr

/-- The two decode faults of R101 and R276. -/
inductive DecodeFault where
  /-- The opcode is one of the 107 unassigned ones. -/
  | noFormat (opcode : BitVec 7)
  /-- The opcode has a format, but its fields select no instruction; the format is the shape of `fields`. -/
  | noVariant (opcode : BitVec 7) (fields : FormatFields)
  deriving DecidableEq, Repr

/-- One constructor per row of opcode_table.json. Immediates are the 64-bit extended values of R74 to R78. -/
inductive Instr where
  /-- LUI (R123). -/
  | lui (rd : XReg) (imm : Word)
  /-- AUIPC (R124). -/
  | auipc (rd : XReg) (imm : Word)
  /-- JAL (R153). -/
  | jal (rd : XReg) (imm : Word)
  /-- JALR (R154). -/
  | jalr (rd rs1 : XReg) (imm : Word)
  /-- BEQ (R155). -/
  | beq (rs1 rs2 : XReg) (imm : Word)
  /-- BNE (R156). -/
  | bne (rs1 rs2 : XReg) (imm : Word)
  /-- BLT (R157). -/
  | blt (rs1 rs2 : XReg) (imm : Word)
  /-- BGE (R158). -/
  | bge (rs1 rs2 : XReg) (imm : Word)
  /-- BLTU (R159). -/
  | bltu (rs1 rs2 : XReg) (imm : Word)
  /-- BGEU (R160). -/
  | bgeu (rs1 rs2 : XReg) (imm : Word)
  /-- LB (R161). -/
  | lb (rd rs1 : XReg) (imm : Word)
  /-- LH (R162). -/
  | lh (rd rs1 : XReg) (imm : Word)
  /-- LW (R163). -/
  | lw (rd rs1 : XReg) (imm : Word)
  /-- LD (R164). -/
  | ld (rd rs1 : XReg) (imm : Word)
  /-- LBU (R165). -/
  | lbu (rd rs1 : XReg) (imm : Word)
  /-- LHU (R166). -/
  | lhu (rd rs1 : XReg) (imm : Word)
  /-- LWU (R167). -/
  | lwu (rd rs1 : XReg) (imm : Word)
  /-- SB (R168). -/
  | sb (rs1 rs2 : XReg) (imm : Word)
  /-- SH (R169). -/
  | sh (rs1 rs2 : XReg) (imm : Word)
  /-- SW (R170). -/
  | sw (rs1 rs2 : XReg) (imm : Word)
  /-- SD (R171). -/
  | sd (rs1 rs2 : XReg) (imm : Word)
  /-- ADDI (R125). -/
  | addi (rd rs1 : XReg) (imm : Word)
  /-- SLTI (R126). -/
  | slti (rd rs1 : XReg) (imm : Word)
  /-- SLTIU (R127). -/
  | sltiu (rd rs1 : XReg) (imm : Word)
  /-- XORI (R128). -/
  | xori (rd rs1 : XReg) (imm : Word)
  /-- ORI (R129). -/
  | ori (rd rs1 : XReg) (imm : Word)
  /-- ANDI (R130). -/
  | andi (rd rs1 : XReg) (imm : Word)
  /-- SLLI (R131). -/
  | slli (rd rs1 : XReg) (shamt : BitVec 6)
  /-- SRLI (R132). -/
  | srli (rd rs1 : XReg) (shamt : BitVec 6)
  /-- SRAI (R133). -/
  | srai (rd rs1 : XReg) (shamt : BitVec 6)
  /-- ADD (R134). -/
  | add (rd rs1 rs2 : XReg)
  /-- SUB (R135). -/
  | sub (rd rs1 rs2 : XReg)
  /-- SLL (R136). -/
  | sll (rd rs1 rs2 : XReg)
  /-- SLT (R137). -/
  | slt (rd rs1 rs2 : XReg)
  /-- SLTU (R138). -/
  | sltu (rd rs1 rs2 : XReg)
  /-- XOR (R139). -/
  | xor (rd rs1 rs2 : XReg)
  /-- SRL (R140). -/
  | srl (rd rs1 rs2 : XReg)
  /-- SRA (R141). -/
  | sra (rd rs1 rs2 : XReg)
  /-- OR (R142). -/
  | or (rd rs1 rs2 : XReg)
  /-- AND (R143). -/
  | and (rd rs1 rs2 : XReg)
  /-- ADDIW (R144). -/
  | addiw (rd rs1 : XReg) (imm : Word)
  /-- SLLIW (R145). -/
  | slliw (rd rs1 : XReg) (shamt : BitVec 5)
  /-- SRLIW (R146). -/
  | srliw (rd rs1 : XReg) (shamt : BitVec 5)
  /-- SRAIW (R147). -/
  | sraiw (rd rs1 : XReg) (shamt : BitVec 5)
  /-- ADDW (R148). -/
  | addw (rd rs1 rs2 : XReg)
  /-- SUBW (R149). -/
  | subw (rd rs1 rs2 : XReg)
  /-- SLLW (R150). -/
  | sllw (rd rs1 rs2 : XReg)
  /-- SRLW (R151). -/
  | srlw (rd rs1 rs2 : XReg)
  /-- SRAW (R152). -/
  | sraw (rd rs1 rs2 : XReg)
  /-- PAUSE (R173). -/
  | pause
  /-- FENCE (R172). -/
  | fence (fm pred succ : BitVec 4) (rs1 rd : XReg)
  /-- FENCE.I (R174). -/
  | fenceI (rd rs1 : XReg) (imm : Word)
  /-- ECALL (R175). -/
  | ecall
  /-- EBREAK (R176). -/
  | ebreak
  /-- MUL (R177). -/
  | mul (rd rs1 rs2 : XReg)
  /-- MULH (R178). -/
  | mulh (rd rs1 rs2 : XReg)
  /-- MULHSU (R179). -/
  | mulhsu (rd rs1 rs2 : XReg)
  /-- MULHU (R180). -/
  | mulhu (rd rs1 rs2 : XReg)
  /-- DIV (R181). -/
  | div (rd rs1 rs2 : XReg)
  /-- DIVU (R182). -/
  | divu (rd rs1 rs2 : XReg)
  /-- REM (R183). -/
  | rem (rd rs1 rs2 : XReg)
  /-- REMU (R184). -/
  | remu (rd rs1 rs2 : XReg)
  /-- MULW (R185). -/
  | mulw (rd rs1 rs2 : XReg)
  /-- DIVW (R186). -/
  | divw (rd rs1 rs2 : XReg)
  /-- DIVUW (R187). -/
  | divuw (rd rs1 rs2 : XReg)
  /-- REMW (R188). -/
  | remw (rd rs1 rs2 : XReg)
  /-- REMUW (R189). -/
  | remuw (rd rs1 rs2 : XReg)
  /-- LR.W (R190). -/
  | lrW (rd rs1 : XReg) (aq rl : Bool)
  /-- SC.W (R191). -/
  | scW (rd rs1 rs2 : XReg) (aq rl : Bool)
  /-- AMOSWAP.W (R194). -/
  | amoswapW (rd rs1 rs2 : XReg) (aq rl : Bool)
  /-- AMOADD.W (R195). -/
  | amoaddW (rd rs1 rs2 : XReg) (aq rl : Bool)
  /-- AMOXOR.W (R196). -/
  | amoxorW (rd rs1 rs2 : XReg) (aq rl : Bool)
  /-- AMOAND.W (R197). -/
  | amoandW (rd rs1 rs2 : XReg) (aq rl : Bool)
  /-- AMOOR.W (R198). -/
  | amoorW (rd rs1 rs2 : XReg) (aq rl : Bool)
  /-- AMOMIN.W (R199). -/
  | amominW (rd rs1 rs2 : XReg) (aq rl : Bool)
  /-- AMOMAX.W (R200). -/
  | amomaxW (rd rs1 rs2 : XReg) (aq rl : Bool)
  /-- AMOMINU.W (R201). -/
  | amominuW (rd rs1 rs2 : XReg) (aq rl : Bool)
  /-- AMOMAXU.W (R202). -/
  | amomaxuW (rd rs1 rs2 : XReg) (aq rl : Bool)
  /-- LR.D (R192). -/
  | lrD (rd rs1 : XReg) (aq rl : Bool)
  /-- SC.D (R193). -/
  | scD (rd rs1 rs2 : XReg) (aq rl : Bool)
  /-- AMOSWAP.D (R203). -/
  | amoswapD (rd rs1 rs2 : XReg) (aq rl : Bool)
  /-- AMOADD.D (R204). -/
  | amoaddD (rd rs1 rs2 : XReg) (aq rl : Bool)
  /-- AMOXOR.D (R205). -/
  | amoxorD (rd rs1 rs2 : XReg) (aq rl : Bool)
  /-- AMOAND.D (R206). -/
  | amoandD (rd rs1 rs2 : XReg) (aq rl : Bool)
  /-- AMOOR.D (R207). -/
  | amoorD (rd rs1 rs2 : XReg) (aq rl : Bool)
  /-- AMOMIN.D (R208). -/
  | amominD (rd rs1 rs2 : XReg) (aq rl : Bool)
  /-- AMOMAX.D (R209). -/
  | amomaxD (rd rs1 rs2 : XReg) (aq rl : Bool)
  /-- AMOMINU.D (R210). -/
  | amominuD (rd rs1 rs2 : XReg) (aq rl : Bool)
  /-- AMOMAXU.D (R211). -/
  | amomaxuD (rd rs1 rs2 : XReg) (aq rl : Bool)
  /-- FLW (R212). -/
  | flw (rd : FReg) (rs1 : XReg) (imm : Word)
  /-- FSW (R213). -/
  | fsw (rs1 : XReg) (rs2 : FReg) (imm : Word)
  /-- FMADD.S (R214). -/
  | fmaddS (rd rs1 rs2 rs3 : FReg) (rm : RoundingMode)
  /-- FMSUB.S (R215). -/
  | fmsubS (rd rs1 rs2 rs3 : FReg) (rm : RoundingMode)
  /-- FNMSUB.S (R216). -/
  | fnmsubS (rd rs1 rs2 rs3 : FReg) (rm : RoundingMode)
  /-- FNMADD.S (R217). -/
  | fnmaddS (rd rs1 rs2 rs3 : FReg) (rm : RoundingMode)
  /-- FADD.S (R218). -/
  | faddS (rd rs1 rs2 : FReg) (rm : RoundingMode)
  /-- FSUB.S (R219). -/
  | fsubS (rd rs1 rs2 : FReg) (rm : RoundingMode)
  /-- FMUL.S (R220). -/
  | fmulS (rd rs1 rs2 : FReg) (rm : RoundingMode)
  /-- FDIV.S (R221). -/
  | fdivS (rd rs1 rs2 : FReg) (rm : RoundingMode)
  /-- FSQRT.S (R222). -/
  | fsqrtS (rd rs1 : FReg) (rm : RoundingMode)
  /-- FSGNJ.S (R223). -/
  | fsgnjS (rd rs1 rs2 : FReg)
  /-- FSGNJN.S (R224). -/
  | fsgnjnS (rd rs1 rs2 : FReg)
  /-- FSGNJX.S (R225). -/
  | fsgnjxS (rd rs1 rs2 : FReg)
  /-- FMIN.S (R226). -/
  | fminS (rd rs1 rs2 : FReg)
  /-- FMAX.S (R227). -/
  | fmaxS (rd rs1 rs2 : FReg)
  /-- FCVT.S.D (R242). -/
  | fcvtSD (rd rs1 : FReg) (rm : RoundingMode)
  /-- FEQ.S (R228). -/
  | feqS (rd : XReg) (rs1 rs2 : FReg)
  /-- FLT.S (R229). -/
  | fltS (rd : XReg) (rs1 rs2 : FReg)
  /-- FLE.S (R230). -/
  | fleS (rd : XReg) (rs1 rs2 : FReg)
  /-- FCLASS.S (R231). -/
  | fclassS (rd : XReg) (rs1 : FReg)
  /-- FCVT.W.S (R232). -/
  | fcvtWS (rd : XReg) (rs1 : FReg) (rm : RoundingMode)
  /-- FCVT.WU.S (R233). -/
  | fcvtWuS (rd : XReg) (rs1 : FReg) (rm : RoundingMode)
  /-- FCVT.L.S (R234). -/
  | fcvtLS (rd : XReg) (rs1 : FReg) (rm : RoundingMode)
  /-- FCVT.LU.S (R235). -/
  | fcvtLuS (rd : XReg) (rs1 : FReg) (rm : RoundingMode)
  /-- FCVT.S.W (R236). -/
  | fcvtSW (rd : FReg) (rs1 : XReg) (rm : RoundingMode)
  /-- FCVT.S.WU (R237). -/
  | fcvtSWu (rd : FReg) (rs1 : XReg) (rm : RoundingMode)
  /-- FCVT.S.L (R238). -/
  | fcvtSL (rd : FReg) (rs1 : XReg) (rm : RoundingMode)
  /-- FCVT.S.LU (R239). -/
  | fcvtSLu (rd : FReg) (rs1 : XReg) (rm : RoundingMode)
  /-- FMV.X.W (R240). -/
  | fmvXW (rd : XReg) (rs1 : FReg)
  /-- FMV.W.X (R241). -/
  | fmvWX (rd : FReg) (rs1 : XReg)
  /-- FLD (R243). -/
  | fld (rd : FReg) (rs1 : XReg) (imm : Word)
  /-- FSD (R244). -/
  | fsd (rs1 : XReg) (rs2 : FReg) (imm : Word)
  /-- FMADD.D (R245). -/
  | fmaddD (rd rs1 rs2 rs3 : FReg) (rm : RoundingMode)
  /-- FMSUB.D (R246). -/
  | fmsubD (rd rs1 rs2 rs3 : FReg) (rm : RoundingMode)
  /-- FNMSUB.D (R247). -/
  | fnmsubD (rd rs1 rs2 rs3 : FReg) (rm : RoundingMode)
  /-- FNMADD.D (R248). -/
  | fnmaddD (rd rs1 rs2 rs3 : FReg) (rm : RoundingMode)
  /-- FADD.D (R249). -/
  | faddD (rd rs1 rs2 : FReg) (rm : RoundingMode)
  /-- FSUB.D (R250). -/
  | fsubD (rd rs1 rs2 : FReg) (rm : RoundingMode)
  /-- FMUL.D (R251). -/
  | fmulD (rd rs1 rs2 : FReg) (rm : RoundingMode)
  /-- FDIV.D (R252). -/
  | fdivD (rd rs1 rs2 : FReg) (rm : RoundingMode)
  /-- FSQRT.D (R253). -/
  | fsqrtD (rd rs1 : FReg) (rm : RoundingMode)
  /-- FSGNJ.D (R254). -/
  | fsgnjD (rd rs1 rs2 : FReg)
  /-- FSGNJN.D (R255). -/
  | fsgnjnD (rd rs1 rs2 : FReg)
  /-- FSGNJX.D (R256). -/
  | fsgnjxD (rd rs1 rs2 : FReg)
  /-- FMIN.D (R257). -/
  | fminD (rd rs1 rs2 : FReg)
  /-- FMAX.D (R258). -/
  | fmaxD (rd rs1 rs2 : FReg)
  /-- FCVT.D.S (R259). -/
  | fcvtDS (rd rs1 : FReg) (rm : RoundingMode)
  /-- FEQ.D (R260). -/
  | feqD (rd : XReg) (rs1 rs2 : FReg)
  /-- FLT.D (R261). -/
  | fltD (rd : XReg) (rs1 rs2 : FReg)
  /-- FLE.D (R262). -/
  | fleD (rd : XReg) (rs1 rs2 : FReg)
  /-- FCLASS.D (R263). -/
  | fclassD (rd : XReg) (rs1 : FReg)
  /-- FCVT.W.D (R264). -/
  | fcvtWD (rd : XReg) (rs1 : FReg) (rm : RoundingMode)
  /-- FCVT.WU.D (R265). -/
  | fcvtWuD (rd : XReg) (rs1 : FReg) (rm : RoundingMode)
  /-- FCVT.L.D (R266). -/
  | fcvtLD (rd : XReg) (rs1 : FReg) (rm : RoundingMode)
  /-- FCVT.LU.D (R267). -/
  | fcvtLuD (rd : XReg) (rs1 : FReg) (rm : RoundingMode)
  /-- FCVT.D.W (R268). -/
  | fcvtDW (rd : FReg) (rs1 : XReg) (rm : RoundingMode)
  /-- FCVT.D.WU (R269). -/
  | fcvtDWu (rd : FReg) (rs1 : XReg) (rm : RoundingMode)
  /-- FCVT.D.L (R270). -/
  | fcvtDL (rd : FReg) (rs1 : XReg) (rm : RoundingMode)
  /-- FCVT.D.LU (R271). -/
  | fcvtDLu (rd : FReg) (rs1 : XReg) (rm : RoundingMode)
  /-- FMV.X.D (R272). -/
  | fmvXD (rd : XReg) (rs1 : FReg)
  /-- FMV.D.X (R273). -/
  | fmvDX (rd : FReg) (rs1 : XReg)
  deriving DecidableEq, Repr

/-- The instruction type of R102: a decoded instruction, or the reserved variant `Undefined` with its raw word and
description, which the decoder never produces (D6). -/
inductive Variant where
  | instr (i : Instr)
  | undefined (word : InstrWord) (description : String)
  deriving DecidableEq, Repr

end Sys2Proof
end

