-- ==== Sys2Proof/Decode.lean ====
section
/-! DEFINITION. The decoder of spec 30_encoding.md, a total function of the 32-bit word, and after it the encoder written
from the same layouts. -/

namespace Sys2Proof

/-! ## Fields of a word (R65 to R73) -/

/-- `word[6:0]`. -/
def opcodeOf (w : InstrWord) : BitVec 7 := w.extractLsb' 0 7

/-- `word[11:7]`. -/
def rdOf (w : InstrWord) : BitVec 5 := w.extractLsb' 7 5

/-- `word[14:12]`. -/
def funct3Of (w : InstrWord) : BitVec 3 := w.extractLsb' 12 3

/-- `word[19:15]`. -/
def rs1Of (w : InstrWord) : BitVec 5 := w.extractLsb' 15 5

/-- `word[24:20]`. -/
def rs2Of (w : InstrWord) : BitVec 5 := w.extractLsb' 20 5

/-- `word[31:25]`. -/
def funct7Of (w : InstrWord) : BitVec 7 := w.extractLsb' 25 7

/-- `word[31:26]`, the sub-opcode of the 64-bit shifts by an immediate (R80). -/
def func6Of (w : InstrWord) : BitVec 6 := w.extractLsb' 26 6

/-- `word[25:20]` (R80). -/
def shamt6Of (w : InstrWord) : BitVec 6 := w.extractLsb' 20 6

/-- `word[24:20]` (R80). -/
def shamt5Of (w : InstrWord) : BitVec 5 := w.extractLsb' 20 5

/-- `word[26:25]`, the floating-point format (R66). -/
def fmtOf (w : InstrWord) : BitVec 2 := w.extractLsb' 25 2

/-- `word[31:27]`: func5 (R66), rs3 (R67) and funct5 (R68) are these same bits. -/
def func5Of (w : InstrWord) : BitVec 5 := w.extractLsb' 27 5

/-- `word[26]` (R68). -/
def aqOf (w : InstrWord) : Bool := w.getLsbD 26

/-- `word[25]` (R68). -/
def rlOf (w : InstrWord) : Bool := w.getLsbD 25

/-- `word[31:20]`. -/
def imm12Of (w : InstrWord) : BitVec 12 := w.extractLsb' 20 12

/-! ## Immediates (R74 to R79) -/

/-- I immediate: `sext_64(word[31:20])` (R74). -/
def immI (w : InstrWord) : Word := (imm12Of w).signExtend 64

/-- S immediate: `sext_64(word[31:25] ++ word[11:7])` (R75). -/
def immS (w : InstrWord) : Word := (funct7Of w ++ rdOf w).signExtend 64

/-- B immediate: `sext_64(word[31] ++ word[7] ++ word[30:25] ++ word[11:8] ++ 0)` (R76). -/
def immB (w : InstrWord) : Word :=
  (w.extractLsb' 31 1 ++ w.extractLsb' 7 1 ++ w.extractLsb' 25 6 ++ w.extractLsb' 8 4 ++ 0#1).signExtend 64

/-- U immediate: `sext_64(word[31:12] ++ 0x000)` (R77). -/
def immU (w : InstrWord) : Word := (w.extractLsb' 12 20 ++ 0#12).signExtend 64

/-- J immediate: `sext_64(word[31] ++ word[19:12] ++ word[20] ++ word[30:21] ++ 0)` (R78). -/
def immJ (w : InstrWord) : Word :=
  (w.extractLsb' 31 1 ++ w.extractLsb' 12 8 ++ w.extractLsb' 20 1 ++ w.extractLsb' 21 10 ++ 0#1).signExtend 64

/-! ## Rounding mode (R81) -/

/-- The rounding mode a 3-bit code spells; 101 and 110 give the invalid marker, not a fault. -/
def RoundingMode.ofCode (c : BitVec 3) : RoundingMode :=
  match c with
  | 0b000#3 => .rne
  | 0b001#3 => .rtz
  | 0b010#3 => .rdn
  | 0b011#3 => .rup
  | 0b100#3 => .rmm
  | 0b111#3 => .dyn
  | c => .invalid c

/-- The 3-bit code of a rounding mode. -/
def RoundingMode.code : RoundingMode → BitVec 3
  | .rne => 0b000#3
  | .rtz => 0b001#3
  | .rdn => 0b010#3
  | .rup => 0b011#3
  | .rmm => 0b100#3
  | .invalid c => c
  | .dyn => 0b111#3

/-! ## Operands as the variants carry them -/

def rdX (w : InstrWord) : XReg := ⟨rdOf w⟩
def rs1X (w : InstrWord) : XReg := ⟨rs1Of w⟩
def rs2X (w : InstrWord) : XReg := ⟨rs2Of w⟩
def rdF (w : InstrWord) : FReg := ⟨rdOf w⟩
def rs1F (w : InstrWord) : FReg := ⟨rs1Of w⟩
def rs2F (w : InstrWord) : FReg := ⟨rs2Of w⟩
def rs3F (w : InstrWord) : FReg := ⟨func5Of w⟩
def rmOf (w : InstrWord) : RoundingMode := .ofCode (funct3Of w)

/-! ## The opcode table (R64) -/

/-- The format of an opcode; `none` is the explicit unassigned marker of the other 107 of the 128 entries. -/
def formatOf (opcode : BitVec 7) : Option Format :=
  match opcode with
  | 0x03#7 => some .i
  | 0x07#7 => some .i
  | 0x0F#7 => some .i
  | 0x13#7 => some .i
  | 0x17#7 => some .u
  | 0x1B#7 => some .i
  | 0x23#7 => some .s
  | 0x27#7 => some .s
  | 0x2F#7 => some .r
  | 0x33#7 => some .r
  | 0x37#7 => some .u
  | 0x3B#7 => some .r
  | 0x43#7 => some .r4
  | 0x47#7 => some .r4
  | 0x4B#7 => some .r4
  | 0x4F#7 => some .r4
  | 0x53#7 => some .r
  | 0x63#7 => some .b
  | 0x67#7 => some .i
  | 0x6F#7 => some .j
  | 0x73#7 => some .i
  | _ => none

/-- The fields a format extracts (R65 to R73), for a `NoVariant` fault (R101); R4 is extracted and reported as R. -/
def fieldsOf (f : Format) (w : InstrWord) : FormatFields :=
  match f with
  | .r => .r (funct3Of w) (rdOf w) (rs1Of w) (rs2Of w) (funct7Of w)
  | .r4 => .r (funct3Of w) (rdOf w) (rs1Of w) (rs2Of w) (funct7Of w)
  | .i => .i (funct3Of w) (rdOf w) (rs1Of w) (immI w)
  | .s => .s (funct3Of w) (rs1Of w) (rs2Of w) (immS w)
  | .b => .b (funct3Of w) (rs1Of w) (rs2Of w) (immB w)
  | .u => .u (rdOf w) (immU w)
  | .j => .j (rdOf w) (immJ w)

/-! ## Sub-dispatch (R83 to R100): `none` where no variant is selected -/

/-- LOAD (R83). -/
def decodeLoad (w : InstrWord) : Option Instr :=
  match funct3Of w with
  | 0b000#3 => some (.lb (rdX w) (rs1X w) (immI w))
  | 0b001#3 => some (.lh (rdX w) (rs1X w) (immI w))
  | 0b010#3 => some (.lw (rdX w) (rs1X w) (immI w))
  | 0b011#3 => some (.ld (rdX w) (rs1X w) (immI w))
  | 0b100#3 => some (.lbu (rdX w) (rs1X w) (immI w))
  | 0b101#3 => some (.lhu (rdX w) (rs1X w) (immI w))
  | 0b110#3 => some (.lwu (rdX w) (rs1X w) (immI w))
  | _ => none

/-- LOAD-FP (R84). -/
def decodeLoadFp (w : InstrWord) : Option Instr :=
  match funct3Of w with
  | 0b010#3 => some (.flw (rdF w) (rs1X w) (immI w))
  | 0b011#3 => some (.fld (rdF w) (rs1X w) (immI w))
  | _ => none

/-- MISC-MEM (R85): the exact word of PAUSE is tested before FENCE. -/
def decodeMiscMem (w : InstrWord) : Option Instr :=
  if w = 0x0100000F#32 then some .pause
  else
    match funct3Of w with
    | 0b000#3 => some (.fence (w.extractLsb' 28 4) (w.extractLsb' 24 4) (w.extractLsb' 20 4) (rs1X w) (rdX w))
    | 0b001#3 => some (.fenceI (rdX w) (rs1X w) (immI w))
    | _ => none

/-- OP-IMM (R86). -/
def decodeOpImm (w : InstrWord) : Option Instr :=
  match funct3Of w with
  | 0b000#3 => some (.addi (rdX w) (rs1X w) (immI w))
  | 0b010#3 => some (.slti (rdX w) (rs1X w) (immI w))
  | 0b011#3 => some (.sltiu (rdX w) (rs1X w) (immI w))
  | 0b100#3 => some (.xori (rdX w) (rs1X w) (immI w))
  | 0b110#3 => some (.ori (rdX w) (rs1X w) (immI w))
  | 0b111#3 => some (.andi (rdX w) (rs1X w) (immI w))
  | 0b001#3 =>
    match func6Of w with
    | 0b000000#6 => some (.slli (rdX w) (rs1X w) (shamt6Of w))
    | _ => none
  | 0b101#3 =>
    match func6Of w with
    | 0b000000#6 => some (.srli (rdX w) (rs1X w) (shamt6Of w))
    | 0b010000#6 => some (.srai (rdX w) (rs1X w) (shamt6Of w))
    | _ => none

/-- OP-IMM-32 (R88). -/
def decodeOpImm32 (w : InstrWord) : Option Instr :=
  match funct3Of w with
  | 0b000#3 => some (.addiw (rdX w) (rs1X w) (immI w))
  | 0b001#3 =>
    match funct7Of w with
    | 0b0000000#7 => some (.slliw (rdX w) (rs1X w) (shamt5Of w))
    | _ => none
  | 0b101#3 =>
    match funct7Of w with
    | 0b0000000#7 => some (.srliw (rdX w) (rs1X w) (shamt5Of w))
    | 0b0100000#7 => some (.sraiw (rdX w) (rs1X w) (shamt5Of w))
    | _ => none
  | _ => none

/-- STORE (R89). -/
def decodeStore (w : InstrWord) : Option Instr :=
  match funct3Of w with
  | 0b000#3 => some (.sb (rs1X w) (rs2X w) (immS w))
  | 0b001#3 => some (.sh (rs1X w) (rs2X w) (immS w))
  | 0b010#3 => some (.sw (rs1X w) (rs2X w) (immS w))
  | 0b011#3 => some (.sd (rs1X w) (rs2X w) (immS w))
  | _ => none

/-- STORE-FP (R90). -/
def decodeStoreFp (w : InstrWord) : Option Instr :=
  match funct3Of w with
  | 0b010#3 => some (.fsw (rs1X w) (rs2F w) (immS w))
  | 0b011#3 => some (.fsd (rs1X w) (rs2F w) (immS w))
  | _ => none

/-- The .W forms of AMO (R91): LR only with rs2 = 00000 (D14). -/
def decodeAmoWord (w : InstrWord) : Option Instr :=
  match func5Of w with
  | 0b00010#5 => if rs2Of w = 0#5 then some (.lrW (rdX w) (rs1X w) (aqOf w) (rlOf w)) else none
  | 0b00011#5 => some (.scW (rdX w) (rs1X w) (rs2X w) (aqOf w) (rlOf w))
  | 0b00001#5 => some (.amoswapW (rdX w) (rs1X w) (rs2X w) (aqOf w) (rlOf w))
  | 0b00000#5 => some (.amoaddW (rdX w) (rs1X w) (rs2X w) (aqOf w) (rlOf w))
  | 0b00100#5 => some (.amoxorW (rdX w) (rs1X w) (rs2X w) (aqOf w) (rlOf w))
  | 0b01100#5 => some (.amoandW (rdX w) (rs1X w) (rs2X w) (aqOf w) (rlOf w))
  | 0b01000#5 => some (.amoorW (rdX w) (rs1X w) (rs2X w) (aqOf w) (rlOf w))
  | 0b10000#5 => some (.amominW (rdX w) (rs1X w) (rs2X w) (aqOf w) (rlOf w))
  | 0b10100#5 => some (.amomaxW (rdX w) (rs1X w) (rs2X w) (aqOf w) (rlOf w))
  | 0b11000#5 => some (.amominuW (rdX w) (rs1X w) (rs2X w) (aqOf w) (rlOf w))
  | 0b11100#5 => some (.amomaxuW (rdX w) (rs1X w) (rs2X w) (aqOf w) (rlOf w))
  | _ => none

/-- The .D forms of AMO (R91): LR only with rs2 = 00000 (D14). -/
def decodeAmoDoubleword (w : InstrWord) : Option Instr :=
  match func5Of w with
  | 0b00010#5 => if rs2Of w = 0#5 then some (.lrD (rdX w) (rs1X w) (aqOf w) (rlOf w)) else none
  | 0b00011#5 => some (.scD (rdX w) (rs1X w) (rs2X w) (aqOf w) (rlOf w))
  | 0b00001#5 => some (.amoswapD (rdX w) (rs1X w) (rs2X w) (aqOf w) (rlOf w))
  | 0b00000#5 => some (.amoaddD (rdX w) (rs1X w) (rs2X w) (aqOf w) (rlOf w))
  | 0b00100#5 => some (.amoxorD (rdX w) (rs1X w) (rs2X w) (aqOf w) (rlOf w))
  | 0b01100#5 => some (.amoandD (rdX w) (rs1X w) (rs2X w) (aqOf w) (rlOf w))
  | 0b01000#5 => some (.amoorD (rdX w) (rs1X w) (rs2X w) (aqOf w) (rlOf w))
  | 0b10000#5 => some (.amominD (rdX w) (rs1X w) (rs2X w) (aqOf w) (rlOf w))
  | 0b10100#5 => some (.amomaxD (rdX w) (rs1X w) (rs2X w) (aqOf w) (rlOf w))
  | 0b11000#5 => some (.amominuD (rdX w) (rs1X w) (rs2X w) (aqOf w) (rlOf w))
  | 0b11100#5 => some (.amomaxuD (rdX w) (rs1X w) (rs2X w) (aqOf w) (rlOf w))
  | _ => none

/-- AMO (R91). -/
def decodeAmo (w : InstrWord) : Option Instr :=
  match funct3Of w with
  | 0b010#3 => decodeAmoWord w
  | 0b011#3 => decodeAmoDoubleword w
  | _ => none

/-- OP (R92). -/
def decodeOp (w : InstrWord) : Option Instr :=
  match funct7Of w with
  | 0b0000000#7 =>
    match funct3Of w with
    | 0b000#3 => some (.add (rdX w) (rs1X w) (rs2X w))
    | 0b001#3 => some (.sll (rdX w) (rs1X w) (rs2X w))
    | 0b010#3 => some (.slt (rdX w) (rs1X w) (rs2X w))
    | 0b011#3 => some (.sltu (rdX w) (rs1X w) (rs2X w))
    | 0b100#3 => some (.xor (rdX w) (rs1X w) (rs2X w))
    | 0b101#3 => some (.srl (rdX w) (rs1X w) (rs2X w))
    | 0b110#3 => some (.or (rdX w) (rs1X w) (rs2X w))
    | 0b111#3 => some (.and (rdX w) (rs1X w) (rs2X w))
  | 0b0100000#7 =>
    match funct3Of w with
    | 0b000#3 => some (.sub (rdX w) (rs1X w) (rs2X w))
    | 0b101#3 => some (.sra (rdX w) (rs1X w) (rs2X w))
    | _ => none
  | 0b0000001#7 =>
    match funct3Of w with
    | 0b000#3 => some (.mul (rdX w) (rs1X w) (rs2X w))
    | 0b001#3 => some (.mulh (rdX w) (rs1X w) (rs2X w))
    | 0b010#3 => some (.mulhsu (rdX w) (rs1X w) (rs2X w))
    | 0b011#3 => some (.mulhu (rdX w) (rs1X w) (rs2X w))
    | 0b100#3 => some (.div (rdX w) (rs1X w) (rs2X w))
    | 0b101#3 => some (.divu (rdX w) (rs1X w) (rs2X w))
    | 0b110#3 => some (.rem (rdX w) (rs1X w) (rs2X w))
    | 0b111#3 => some (.remu (rdX w) (rs1X w) (rs2X w))
  | _ => none

/-- OP-32 (R94). -/
def decodeOp32 (w : InstrWord) : Option Instr :=
  match funct7Of w with
  | 0b0000000#7 =>
    match funct3Of w with
    | 0b000#3 => some (.addw (rdX w) (rs1X w) (rs2X w))
    | 0b001#3 => some (.sllw (rdX w) (rs1X w) (rs2X w))
    | 0b101#3 => some (.srlw (rdX w) (rs1X w) (rs2X w))
    | _ => none
  | 0b0100000#7 =>
    match funct3Of w with
    | 0b000#3 => some (.subw (rdX w) (rs1X w) (rs2X w))
    | 0b101#3 => some (.sraw (rdX w) (rs1X w) (rs2X w))
    | _ => none
  | 0b0000001#7 =>
    match funct3Of w with
    | 0b000#3 => some (.mulw (rdX w) (rs1X w) (rs2X w))
    | 0b100#3 => some (.divw (rdX w) (rs1X w) (rs2X w))
    | 0b101#3 => some (.divuw (rdX w) (rs1X w) (rs2X w))
    | 0b110#3 => some (.remw (rdX w) (rs1X w) (rs2X w))
    | 0b111#3 => some (.remuw (rdX w) (rs1X w) (rs2X w))
    | _ => none
  | _ => none

/-- MADD, an R4 opcode (R95). -/
def decodeMadd (w : InstrWord) : Option Instr :=
  match fmtOf w with
  | 0b00#2 => some (.fmaddS (rdF w) (rs1F w) (rs2F w) (rs3F w) (rmOf w))
  | 0b01#2 => some (.fmaddD (rdF w) (rs1F w) (rs2F w) (rs3F w) (rmOf w))
  | _ => none

/-- MSUB, an R4 opcode (R95). -/
def decodeMsub (w : InstrWord) : Option Instr :=
  match fmtOf w with
  | 0b00#2 => some (.fmsubS (rdF w) (rs1F w) (rs2F w) (rs3F w) (rmOf w))
  | 0b01#2 => some (.fmsubD (rdF w) (rs1F w) (rs2F w) (rs3F w) (rmOf w))
  | _ => none

/-- NMSUB, an R4 opcode (R95). -/
def decodeNmsub (w : InstrWord) : Option Instr :=
  match fmtOf w with
  | 0b00#2 => some (.fnmsubS (rdF w) (rs1F w) (rs2F w) (rs3F w) (rmOf w))
  | 0b01#2 => some (.fnmsubD (rdF w) (rs1F w) (rs2F w) (rs3F w) (rmOf w))
  | _ => none

/-- NMADD, an R4 opcode (R95). -/
def decodeNmadd (w : InstrWord) : Option Instr :=
  match fmtOf w with
  | 0b00#2 => some (.fnmaddS (rdF w) (rs1F w) (rs2F w) (rs3F w) (rmOf w))
  | 0b01#2 => some (.fnmaddD (rdF w) (rs1F w) (rs2F w) (rs3F w) (rmOf w))
  | _ => none

/-- OP-FP with fmt 00 (R96). -/
def decodeOpFpSingle (w : InstrWord) : Option Instr :=
  match func5Of w with
  | 0b00000#5 => some (.faddS (rdF w) (rs1F w) (rs2F w) (rmOf w))
  | 0b00001#5 => some (.fsubS (rdF w) (rs1F w) (rs2F w) (rmOf w))
  | 0b00010#5 => some (.fmulS (rdF w) (rs1F w) (rs2F w) (rmOf w))
  | 0b00011#5 => some (.fdivS (rdF w) (rs1F w) (rs2F w) (rmOf w))
  | 0b01011#5 => if rs2Of w = 0b00000#5 then some (.fsqrtS (rdF w) (rs1F w) (rmOf w)) else none
  | 0b00100#5 =>
    match funct3Of w with
    | 0b000#3 => some (.fsgnjS (rdF w) (rs1F w) (rs2F w))
    | 0b001#3 => some (.fsgnjnS (rdF w) (rs1F w) (rs2F w))
    | 0b010#3 => some (.fsgnjxS (rdF w) (rs1F w) (rs2F w))
    | _ => none
  | 0b00101#5 =>
    match funct3Of w with
    | 0b000#3 => some (.fminS (rdF w) (rs1F w) (rs2F w))
    | 0b001#3 => some (.fmaxS (rdF w) (rs1F w) (rs2F w))
    | _ => none
  | 0b01000#5 => if rs2Of w = 0b00001#5 then some (.fcvtSD (rdF w) (rs1F w) (rmOf w)) else none
  | 0b10100#5 =>
    match funct3Of w with
    | 0b010#3 => some (.feqS (rdX w) (rs1F w) (rs2F w))
    | 0b001#3 => some (.fltS (rdX w) (rs1F w) (rs2F w))
    | 0b000#3 => some (.fleS (rdX w) (rs1F w) (rs2F w))
    | _ => none
  | 0b11000#5 =>
    match rs2Of w with
    | 0b00000#5 => some (.fcvtWS (rdX w) (rs1F w) (rmOf w))
    | 0b00001#5 => some (.fcvtWuS (rdX w) (rs1F w) (rmOf w))
    | 0b00010#5 => some (.fcvtLS (rdX w) (rs1F w) (rmOf w))
    | 0b00011#5 => some (.fcvtLuS (rdX w) (rs1F w) (rmOf w))
    | _ => none
  | 0b11010#5 =>
    match rs2Of w with
    | 0b00000#5 => some (.fcvtSW (rdF w) (rs1X w) (rmOf w))
    | 0b00001#5 => some (.fcvtSWu (rdF w) (rs1X w) (rmOf w))
    | 0b00010#5 => some (.fcvtSL (rdF w) (rs1X w) (rmOf w))
    | 0b00011#5 => some (.fcvtSLu (rdF w) (rs1X w) (rmOf w))
    | _ => none
  | 0b11100#5 =>
    if rs2Of w = 0b00000#5 then
      match funct3Of w with
      | 0b000#3 => some (.fmvXW (rdX w) (rs1F w))
      | 0b001#3 => some (.fclassS (rdX w) (rs1F w))
      | _ => none
    else none
  | 0b11110#5 =>
    if rs2Of w = 0b00000#5 then
      match funct3Of w with
      | 0b000#3 => some (.fmvWX (rdF w) (rs1X w))
      | _ => none
    else none
  | _ => none

/-- OP-FP with fmt 01 (R96). -/
def decodeOpFpDouble (w : InstrWord) : Option Instr :=
  match func5Of w with
  | 0b00000#5 => some (.faddD (rdF w) (rs1F w) (rs2F w) (rmOf w))
  | 0b00001#5 => some (.fsubD (rdF w) (rs1F w) (rs2F w) (rmOf w))
  | 0b00010#5 => some (.fmulD (rdF w) (rs1F w) (rs2F w) (rmOf w))
  | 0b00011#5 => some (.fdivD (rdF w) (rs1F w) (rs2F w) (rmOf w))
  | 0b01011#5 => if rs2Of w = 0b00000#5 then some (.fsqrtD (rdF w) (rs1F w) (rmOf w)) else none
  | 0b00100#5 =>
    match funct3Of w with
    | 0b000#3 => some (.fsgnjD (rdF w) (rs1F w) (rs2F w))
    | 0b001#3 => some (.fsgnjnD (rdF w) (rs1F w) (rs2F w))
    | 0b010#3 => some (.fsgnjxD (rdF w) (rs1F w) (rs2F w))
    | _ => none
  | 0b00101#5 =>
    match funct3Of w with
    | 0b000#3 => some (.fminD (rdF w) (rs1F w) (rs2F w))
    | 0b001#3 => some (.fmaxD (rdF w) (rs1F w) (rs2F w))
    | _ => none
  | 0b01000#5 => if rs2Of w = 0b00000#5 then some (.fcvtDS (rdF w) (rs1F w) (rmOf w)) else none
  | 0b10100#5 =>
    match funct3Of w with
    | 0b010#3 => some (.feqD (rdX w) (rs1F w) (rs2F w))
    | 0b001#3 => some (.fltD (rdX w) (rs1F w) (rs2F w))
    | 0b000#3 => some (.fleD (rdX w) (rs1F w) (rs2F w))
    | _ => none
  | 0b11000#5 =>
    match rs2Of w with
    | 0b00000#5 => some (.fcvtWD (rdX w) (rs1F w) (rmOf w))
    | 0b00001#5 => some (.fcvtWuD (rdX w) (rs1F w) (rmOf w))
    | 0b00010#5 => some (.fcvtLD (rdX w) (rs1F w) (rmOf w))
    | 0b00011#5 => some (.fcvtLuD (rdX w) (rs1F w) (rmOf w))
    | _ => none
  | 0b11010#5 =>
    match rs2Of w with
    | 0b00000#5 => some (.fcvtDW (rdF w) (rs1X w) (rmOf w))
    | 0b00001#5 => some (.fcvtDWu (rdF w) (rs1X w) (rmOf w))
    | 0b00010#5 => some (.fcvtDL (rdF w) (rs1X w) (rmOf w))
    | 0b00011#5 => some (.fcvtDLu (rdF w) (rs1X w) (rmOf w))
    | _ => none
  | 0b11100#5 =>
    if rs2Of w = 0b00000#5 then
      match funct3Of w with
      | 0b000#3 => some (.fmvXD (rdX w) (rs1F w))
      | 0b001#3 => some (.fclassD (rdX w) (rs1F w))
      | _ => none
    else none
  | 0b11110#5 =>
    if rs2Of w = 0b00000#5 then
      match funct3Of w with
      | 0b000#3 => some (.fmvDX (rdF w) (rs1X w))
      | _ => none
    else none
  | _ => none

/-- OP-FP (R96): fmt 10 and 11 select nothing (D13). -/
def decodeOpFp (w : InstrWord) : Option Instr :=
  match fmtOf w with
  | 0b00#2 => decodeOpFpSingle w
  | 0b01#2 => decodeOpFpDouble w
  | _ => none

/-- BRANCH (R97). -/
def decodeBranch (w : InstrWord) : Option Instr :=
  match funct3Of w with
  | 0b000#3 => some (.beq (rs1X w) (rs2X w) (immB w))
  | 0b001#3 => some (.bne (rs1X w) (rs2X w) (immB w))
  | 0b100#3 => some (.blt (rs1X w) (rs2X w) (immB w))
  | 0b101#3 => some (.bge (rs1X w) (rs2X w) (immB w))
  | 0b110#3 => some (.bltu (rs1X w) (rs2X w) (immB w))
  | 0b111#3 => some (.bgeu (rs1X w) (rs2X w) (immB w))
  | _ => none

/-- JALR (R98). -/
def decodeJalr (w : InstrWord) : Option Instr :=
  match funct3Of w with
  | 0b000#3 => some (.jalr (rdX w) (rs1X w) (immI w))
  | _ => none

/-- SYSTEM (R100): exactly two words (D12). -/
def decodeSystem (w : InstrWord) : Option Instr :=
  if w = 0x00000073#32 then some .ecall
  else if w = 0x00100073#32 then some .ebreak
  else none

/-- `SUBDISPATCH` of R63: the variant the opcode and the fields select, if any. -/
def subDispatch (w : InstrWord) : Option Instr :=
  match opcodeOf w with
  | 0x03#7 => decodeLoad w
  | 0x07#7 => decodeLoadFp w
  | 0x0F#7 => decodeMiscMem w
  | 0x13#7 => decodeOpImm w
  | 0x17#7 => some (.auipc (rdX w) (immU w))
  | 0x1B#7 => decodeOpImm32 w
  | 0x23#7 => decodeStore w
  | 0x27#7 => decodeStoreFp w
  | 0x2F#7 => decodeAmo w
  | 0x33#7 => decodeOp w
  | 0x37#7 => some (.lui (rdX w) (immU w))
  | 0x3B#7 => decodeOp32 w
  | 0x43#7 => decodeMadd w
  | 0x47#7 => decodeMsub w
  | 0x4B#7 => decodeNmsub w
  | 0x4F#7 => decodeNmadd w
  | 0x53#7 => decodeOpFp w
  | 0x63#7 => decodeBranch w
  | 0x67#7 => decodeJalr w
  | 0x6F#7 => some (.jal (rdX w) (immJ w))
  | 0x73#7 => decodeSystem w
  | _ => none

/-- The decoder (R62, R63): every word gives exactly one instruction or exactly one decode fault. -/
def decode (w : InstrWord) : Except DecodeFault Instr :=
  match formatOf (opcodeOf w) with
  | none => .error (.noFormat (opcodeOf w))
  | some f =>
    match subDispatch w with
    | some i => .ok i
    | none => .error (.noVariant (opcodeOf w) (fieldsOf f w))

/-! ## Byte order (R46, R50) -/

/-- The value whose bytes these are, the first one least significant (little-endian, R46). -/
def packLittle : List Byte → Nat
  | [] => 0
  | b :: bs => b.toNat + 256 * packLittle bs

/-- The `n` bytes of a value, least significant first. -/
def unpackLittle : Nat → Nat → List Byte
  | 0, _ => []
  | n + 1, v => BitVec.ofNat 8 v :: unpackLittle n (v / 256)

/-- The word the core reads from four bytes, lowest address first (R50). -/
def wordOfBytes (bs : List Byte) : InstrWord := BitVec.ofNat 32 (packLittle bs)

/-- The instruction in four bytes of memory, lowest address first. -/
def decodeBytes (bs : List Byte) : Except DecodeFault Instr := decode (wordOfBytes bs)

/-- The instruction the decoder reads where the bits of a word are `w` and every bit above `nbits` is 0: the word is laid
out as its four little-endian bytes and decoded from them. -/
def decodeTableWord (nbits w : Nat) : Option Instr :=
  match decodeBytes (unpackLittle 4 (w % 2 ^ nbits)) with
  | .ok i => some i
  | .error _ => none

/-! ## The encoder, from the layouts of R65 to R73 -/

/-- R layout (R65). -/
def encR (funct7 : BitVec 7) (rs2 rs1 : BitVec 5) (funct3 : BitVec 3) (rd : BitVec 5) (opcode : BitVec 7) : InstrWord :=
  funct7 ++ rs2 ++ rs1 ++ funct3 ++ rd ++ opcode

/-- R4 layout (R67). -/
def encR4 (rs3 : BitVec 5) (fmt : BitVec 2) (rs2 rs1 : BitVec 5) (rm : BitVec 3) (rd : BitVec 5) (opcode : BitVec 7) :
    InstrWord :=
  encR (rs3 ++ fmt) rs2 rs1 rm rd opcode

/-- AMO layout (R68). -/
def encAmo (funct5 : BitVec 5) (aq rl : Bool) (rs2 rs1 : BitVec 5) (funct3 : BitVec 3) (rd : BitVec 5) : InstrWord :=
  encR (funct5 ++ BitVec.ofBool aq ++ BitVec.ofBool rl) rs2 rs1 funct3 rd 0x2F#7

/-- I layout (R69); the immediate's low 12 bits are encoded. -/
def encI (imm : Word) (rs1 : BitVec 5) (funct3 : BitVec 3) (rd : BitVec 5) (opcode : BitVec 7) : InstrWord :=
  imm.extractLsb' 0 12 ++ rs1 ++ funct3 ++ rd ++ opcode

/-- I layout of a 64-bit shift by an immediate (R80). -/
def encShift6 (func6 shamt : BitVec 6) (rs1 : BitVec 5) (funct3 : BitVec 3) (rd : BitVec 5) (opcode : BitVec 7) :
    InstrWord :=
  func6 ++ shamt ++ rs1 ++ funct3 ++ rd ++ opcode

/-- S layout (R70). -/
def encS (imm : Word) (rs2 rs1 : BitVec 5) (funct3 : BitVec 3) (opcode : BitVec 7) : InstrWord :=
  encR (imm.extractLsb' 5 7) rs2 rs1 funct3 (imm.extractLsb' 0 5) opcode

/-- B layout (R71). -/
def encB (imm : Word) (rs2 rs1 : BitVec 5) (funct3 : BitVec 3) (opcode : BitVec 7) : InstrWord :=
  encR (imm.extractLsb' 12 1 ++ imm.extractLsb' 5 6) rs2 rs1 funct3 (imm.extractLsb' 1 4 ++ imm.extractLsb' 11 1) opcode

/-- U layout (R72). -/
def encU (imm : Word) (rd : BitVec 5) (opcode : BitVec 7) : InstrWord :=
  imm.extractLsb' 12 20 ++ rd ++ opcode

/-- J layout (R73). -/
def encJ (imm : Word) (rd : BitVec 5) (opcode : BitVec 7) : InstrWord :=
  imm.extractLsb' 20 1 ++ imm.extractLsb' 1 10 ++ imm.extractLsb' 11 1 ++ imm.extractLsb' 12 8 ++ rd ++ opcode

/-- FENCE layout (R82). -/
def encFence (fm pred succ : BitVec 4) (rs1 rd : BitVec 5) : InstrWord :=
  fm ++ pred ++ succ ++ rs1 ++ 0b000#3 ++ rd ++ 0x0F#7

/-- The word of a well-formed instruction. -/
def encode : Instr → InstrWord
  | .lui rd imm => encU imm rd.idx 0x37#7
  | .auipc rd imm => encU imm rd.idx 0x17#7
  | .jal rd imm => encJ imm rd.idx 0x6F#7
  | .jalr rd rs1 imm => encI imm rs1.idx 0b000#3 rd.idx 0x67#7
  | .beq rs1 rs2 imm => encB imm rs2.idx rs1.idx 0b000#3 0x63#7
  | .bne rs1 rs2 imm => encB imm rs2.idx rs1.idx 0b001#3 0x63#7
  | .blt rs1 rs2 imm => encB imm rs2.idx rs1.idx 0b100#3 0x63#7
  | .bge rs1 rs2 imm => encB imm rs2.idx rs1.idx 0b101#3 0x63#7
  | .bltu rs1 rs2 imm => encB imm rs2.idx rs1.idx 0b110#3 0x63#7
  | .bgeu rs1 rs2 imm => encB imm rs2.idx rs1.idx 0b111#3 0x63#7
  | .lb rd rs1 imm => encI imm rs1.idx 0b000#3 rd.idx 0x03#7
  | .lh rd rs1 imm => encI imm rs1.idx 0b001#3 rd.idx 0x03#7
  | .lw rd rs1 imm => encI imm rs1.idx 0b010#3 rd.idx 0x03#7
  | .ld rd rs1 imm => encI imm rs1.idx 0b011#3 rd.idx 0x03#7
  | .lbu rd rs1 imm => encI imm rs1.idx 0b100#3 rd.idx 0x03#7
  | .lhu rd rs1 imm => encI imm rs1.idx 0b101#3 rd.idx 0x03#7
  | .lwu rd rs1 imm => encI imm rs1.idx 0b110#3 rd.idx 0x03#7
  | .sb rs1 rs2 imm => encS imm rs2.idx rs1.idx 0b000#3 0x23#7
  | .sh rs1 rs2 imm => encS imm rs2.idx rs1.idx 0b001#3 0x23#7
  | .sw rs1 rs2 imm => encS imm rs2.idx rs1.idx 0b010#3 0x23#7
  | .sd rs1 rs2 imm => encS imm rs2.idx rs1.idx 0b011#3 0x23#7
  | .addi rd rs1 imm => encI imm rs1.idx 0b000#3 rd.idx 0x13#7
  | .slti rd rs1 imm => encI imm rs1.idx 0b010#3 rd.idx 0x13#7
  | .sltiu rd rs1 imm => encI imm rs1.idx 0b011#3 rd.idx 0x13#7
  | .xori rd rs1 imm => encI imm rs1.idx 0b100#3 rd.idx 0x13#7
  | .ori rd rs1 imm => encI imm rs1.idx 0b110#3 rd.idx 0x13#7
  | .andi rd rs1 imm => encI imm rs1.idx 0b111#3 rd.idx 0x13#7
  | .slli rd rs1 shamt => encShift6 0b000000#6 shamt rs1.idx 0b001#3 rd.idx 0x13#7
  | .srli rd rs1 shamt => encShift6 0b000000#6 shamt rs1.idx 0b101#3 rd.idx 0x13#7
  | .srai rd rs1 shamt => encShift6 0b010000#6 shamt rs1.idx 0b101#3 rd.idx 0x13#7
  | .add rd rs1 rs2 => encR 0b0000000#7 rs2.idx rs1.idx 0b000#3 rd.idx 0x33#7
  | .sub rd rs1 rs2 => encR 0b0100000#7 rs2.idx rs1.idx 0b000#3 rd.idx 0x33#7
  | .sll rd rs1 rs2 => encR 0b0000000#7 rs2.idx rs1.idx 0b001#3 rd.idx 0x33#7
  | .slt rd rs1 rs2 => encR 0b0000000#7 rs2.idx rs1.idx 0b010#3 rd.idx 0x33#7
  | .sltu rd rs1 rs2 => encR 0b0000000#7 rs2.idx rs1.idx 0b011#3 rd.idx 0x33#7
  | .xor rd rs1 rs2 => encR 0b0000000#7 rs2.idx rs1.idx 0b100#3 rd.idx 0x33#7
  | .srl rd rs1 rs2 => encR 0b0000000#7 rs2.idx rs1.idx 0b101#3 rd.idx 0x33#7
  | .sra rd rs1 rs2 => encR 0b0100000#7 rs2.idx rs1.idx 0b101#3 rd.idx 0x33#7
  | .or rd rs1 rs2 => encR 0b0000000#7 rs2.idx rs1.idx 0b110#3 rd.idx 0x33#7
  | .and rd rs1 rs2 => encR 0b0000000#7 rs2.idx rs1.idx 0b111#3 rd.idx 0x33#7
  | .addiw rd rs1 imm => encI imm rs1.idx 0b000#3 rd.idx 0x1B#7
  | .slliw rd rs1 shamt => encR 0b0000000#7 shamt rs1.idx 0b001#3 rd.idx 0x1B#7
  | .srliw rd rs1 shamt => encR 0b0000000#7 shamt rs1.idx 0b101#3 rd.idx 0x1B#7
  | .sraiw rd rs1 shamt => encR 0b0100000#7 shamt rs1.idx 0b101#3 rd.idx 0x1B#7
  | .addw rd rs1 rs2 => encR 0b0000000#7 rs2.idx rs1.idx 0b000#3 rd.idx 0x3B#7
  | .subw rd rs1 rs2 => encR 0b0100000#7 rs2.idx rs1.idx 0b000#3 rd.idx 0x3B#7
  | .sllw rd rs1 rs2 => encR 0b0000000#7 rs2.idx rs1.idx 0b001#3 rd.idx 0x3B#7
  | .srlw rd rs1 rs2 => encR 0b0000000#7 rs2.idx rs1.idx 0b101#3 rd.idx 0x3B#7
  | .sraw rd rs1 rs2 => encR 0b0100000#7 rs2.idx rs1.idx 0b101#3 rd.idx 0x3B#7
  | .pause => 0x0100000F#32
  | .fence fm pred succ rs1 rd => encFence fm pred succ rs1.idx rd.idx
  | .fenceI rd rs1 imm => encI imm rs1.idx 0b001#3 rd.idx 0x0F#7
  | .ecall => 0x00000073#32
  | .ebreak => 0x00100073#32
  | .mul rd rs1 rs2 => encR 0b0000001#7 rs2.idx rs1.idx 0b000#3 rd.idx 0x33#7
  | .mulh rd rs1 rs2 => encR 0b0000001#7 rs2.idx rs1.idx 0b001#3 rd.idx 0x33#7
  | .mulhsu rd rs1 rs2 => encR 0b0000001#7 rs2.idx rs1.idx 0b010#3 rd.idx 0x33#7
  | .mulhu rd rs1 rs2 => encR 0b0000001#7 rs2.idx rs1.idx 0b011#3 rd.idx 0x33#7
  | .div rd rs1 rs2 => encR 0b0000001#7 rs2.idx rs1.idx 0b100#3 rd.idx 0x33#7
  | .divu rd rs1 rs2 => encR 0b0000001#7 rs2.idx rs1.idx 0b101#3 rd.idx 0x33#7
  | .rem rd rs1 rs2 => encR 0b0000001#7 rs2.idx rs1.idx 0b110#3 rd.idx 0x33#7
  | .remu rd rs1 rs2 => encR 0b0000001#7 rs2.idx rs1.idx 0b111#3 rd.idx 0x33#7
  | .mulw rd rs1 rs2 => encR 0b0000001#7 rs2.idx rs1.idx 0b000#3 rd.idx 0x3B#7
  | .divw rd rs1 rs2 => encR 0b0000001#7 rs2.idx rs1.idx 0b100#3 rd.idx 0x3B#7
  | .divuw rd rs1 rs2 => encR 0b0000001#7 rs2.idx rs1.idx 0b101#3 rd.idx 0x3B#7
  | .remw rd rs1 rs2 => encR 0b0000001#7 rs2.idx rs1.idx 0b110#3 rd.idx 0x3B#7
  | .remuw rd rs1 rs2 => encR 0b0000001#7 rs2.idx rs1.idx 0b111#3 rd.idx 0x3B#7
  | .lrW rd rs1 aq rl => encAmo 0b00010#5 aq rl 0b00000#5 rs1.idx 0b010#3 rd.idx
  | .scW rd rs1 rs2 aq rl => encAmo 0b00011#5 aq rl rs2.idx rs1.idx 0b010#3 rd.idx
  | .amoswapW rd rs1 rs2 aq rl => encAmo 0b00001#5 aq rl rs2.idx rs1.idx 0b010#3 rd.idx
  | .amoaddW rd rs1 rs2 aq rl => encAmo 0b00000#5 aq rl rs2.idx rs1.idx 0b010#3 rd.idx
  | .amoxorW rd rs1 rs2 aq rl => encAmo 0b00100#5 aq rl rs2.idx rs1.idx 0b010#3 rd.idx
  | .amoandW rd rs1 rs2 aq rl => encAmo 0b01100#5 aq rl rs2.idx rs1.idx 0b010#3 rd.idx
  | .amoorW rd rs1 rs2 aq rl => encAmo 0b01000#5 aq rl rs2.idx rs1.idx 0b010#3 rd.idx
  | .amominW rd rs1 rs2 aq rl => encAmo 0b10000#5 aq rl rs2.idx rs1.idx 0b010#3 rd.idx
  | .amomaxW rd rs1 rs2 aq rl => encAmo 0b10100#5 aq rl rs2.idx rs1.idx 0b010#3 rd.idx
  | .amominuW rd rs1 rs2 aq rl => encAmo 0b11000#5 aq rl rs2.idx rs1.idx 0b010#3 rd.idx
  | .amomaxuW rd rs1 rs2 aq rl => encAmo 0b11100#5 aq rl rs2.idx rs1.idx 0b010#3 rd.idx
  | .lrD rd rs1 aq rl => encAmo 0b00010#5 aq rl 0b00000#5 rs1.idx 0b011#3 rd.idx
  | .scD rd rs1 rs2 aq rl => encAmo 0b00011#5 aq rl rs2.idx rs1.idx 0b011#3 rd.idx
  | .amoswapD rd rs1 rs2 aq rl => encAmo 0b00001#5 aq rl rs2.idx rs1.idx 0b011#3 rd.idx
  | .amoaddD rd rs1 rs2 aq rl => encAmo 0b00000#5 aq rl rs2.idx rs1.idx 0b011#3 rd.idx
  | .amoxorD rd rs1 rs2 aq rl => encAmo 0b00100#5 aq rl rs2.idx rs1.idx 0b011#3 rd.idx
  | .amoandD rd rs1 rs2 aq rl => encAmo 0b01100#5 aq rl rs2.idx rs1.idx 0b011#3 rd.idx
  | .amoorD rd rs1 rs2 aq rl => encAmo 0b01000#5 aq rl rs2.idx rs1.idx 0b011#3 rd.idx
  | .amominD rd rs1 rs2 aq rl => encAmo 0b10000#5 aq rl rs2.idx rs1.idx 0b011#3 rd.idx
  | .amomaxD rd rs1 rs2 aq rl => encAmo 0b10100#5 aq rl rs2.idx rs1.idx 0b011#3 rd.idx
  | .amominuD rd rs1 rs2 aq rl => encAmo 0b11000#5 aq rl rs2.idx rs1.idx 0b011#3 rd.idx
  | .amomaxuD rd rs1 rs2 aq rl => encAmo 0b11100#5 aq rl rs2.idx rs1.idx 0b011#3 rd.idx
  | .flw rd rs1 imm => encI imm rs1.idx 0b010#3 rd.idx 0x07#7
  | .fsw rs1 rs2 imm => encS imm rs2.idx rs1.idx 0b010#3 0x27#7
  | .fmaddS rd rs1 rs2 rs3 rm => encR4 rs3.idx 0b00#2 rs2.idx rs1.idx rm.code rd.idx 0x43#7
  | .fmsubS rd rs1 rs2 rs3 rm => encR4 rs3.idx 0b00#2 rs2.idx rs1.idx rm.code rd.idx 0x47#7
  | .fnmsubS rd rs1 rs2 rs3 rm => encR4 rs3.idx 0b00#2 rs2.idx rs1.idx rm.code rd.idx 0x4B#7
  | .fnmaddS rd rs1 rs2 rs3 rm => encR4 rs3.idx 0b00#2 rs2.idx rs1.idx rm.code rd.idx 0x4F#7
  | .faddS rd rs1 rs2 rm => encR 0b0000000#7 rs2.idx rs1.idx rm.code rd.idx 0x53#7
  | .fsubS rd rs1 rs2 rm => encR 0b0000100#7 rs2.idx rs1.idx rm.code rd.idx 0x53#7
  | .fmulS rd rs1 rs2 rm => encR 0b0001000#7 rs2.idx rs1.idx rm.code rd.idx 0x53#7
  | .fdivS rd rs1 rs2 rm => encR 0b0001100#7 rs2.idx rs1.idx rm.code rd.idx 0x53#7
  | .fsqrtS rd rs1 rm => encR 0b0101100#7 0b00000#5 rs1.idx rm.code rd.idx 0x53#7
  | .fsgnjS rd rs1 rs2 => encR 0b0010000#7 rs2.idx rs1.idx 0b000#3 rd.idx 0x53#7
  | .fsgnjnS rd rs1 rs2 => encR 0b0010000#7 rs2.idx rs1.idx 0b001#3 rd.idx 0x53#7
  | .fsgnjxS rd rs1 rs2 => encR 0b0010000#7 rs2.idx rs1.idx 0b010#3 rd.idx 0x53#7
  | .fminS rd rs1 rs2 => encR 0b0010100#7 rs2.idx rs1.idx 0b000#3 rd.idx 0x53#7
  | .fmaxS rd rs1 rs2 => encR 0b0010100#7 rs2.idx rs1.idx 0b001#3 rd.idx 0x53#7
  | .fcvtSD rd rs1 rm => encR 0b0100000#7 0b00001#5 rs1.idx rm.code rd.idx 0x53#7
  | .feqS rd rs1 rs2 => encR 0b1010000#7 rs2.idx rs1.idx 0b010#3 rd.idx 0x53#7
  | .fltS rd rs1 rs2 => encR 0b1010000#7 rs2.idx rs1.idx 0b001#3 rd.idx 0x53#7
  | .fleS rd rs1 rs2 => encR 0b1010000#7 rs2.idx rs1.idx 0b000#3 rd.idx 0x53#7
  | .fclassS rd rs1 => encR 0b1110000#7 0b00000#5 rs1.idx 0b001#3 rd.idx 0x53#7
  | .fcvtWS rd rs1 rm => encR 0b1100000#7 0b00000#5 rs1.idx rm.code rd.idx 0x53#7
  | .fcvtWuS rd rs1 rm => encR 0b1100000#7 0b00001#5 rs1.idx rm.code rd.idx 0x53#7
  | .fcvtLS rd rs1 rm => encR 0b1100000#7 0b00010#5 rs1.idx rm.code rd.idx 0x53#7
  | .fcvtLuS rd rs1 rm => encR 0b1100000#7 0b00011#5 rs1.idx rm.code rd.idx 0x53#7
  | .fcvtSW rd rs1 rm => encR 0b1101000#7 0b00000#5 rs1.idx rm.code rd.idx 0x53#7
  | .fcvtSWu rd rs1 rm => encR 0b1101000#7 0b00001#5 rs1.idx rm.code rd.idx 0x53#7
  | .fcvtSL rd rs1 rm => encR 0b1101000#7 0b00010#5 rs1.idx rm.code rd.idx 0x53#7
  | .fcvtSLu rd rs1 rm => encR 0b1101000#7 0b00011#5 rs1.idx rm.code rd.idx 0x53#7
  | .fmvXW rd rs1 => encR 0b1110000#7 0b00000#5 rs1.idx 0b000#3 rd.idx 0x53#7
  | .fmvWX rd rs1 => encR 0b1111000#7 0b00000#5 rs1.idx 0b000#3 rd.idx 0x53#7
  | .fld rd rs1 imm => encI imm rs1.idx 0b011#3 rd.idx 0x07#7
  | .fsd rs1 rs2 imm => encS imm rs2.idx rs1.idx 0b011#3 0x27#7
  | .fmaddD rd rs1 rs2 rs3 rm => encR4 rs3.idx 0b01#2 rs2.idx rs1.idx rm.code rd.idx 0x43#7
  | .fmsubD rd rs1 rs2 rs3 rm => encR4 rs3.idx 0b01#2 rs2.idx rs1.idx rm.code rd.idx 0x47#7
  | .fnmsubD rd rs1 rs2 rs3 rm => encR4 rs3.idx 0b01#2 rs2.idx rs1.idx rm.code rd.idx 0x4B#7
  | .fnmaddD rd rs1 rs2 rs3 rm => encR4 rs3.idx 0b01#2 rs2.idx rs1.idx rm.code rd.idx 0x4F#7
  | .faddD rd rs1 rs2 rm => encR 0b0000001#7 rs2.idx rs1.idx rm.code rd.idx 0x53#7
  | .fsubD rd rs1 rs2 rm => encR 0b0000101#7 rs2.idx rs1.idx rm.code rd.idx 0x53#7
  | .fmulD rd rs1 rs2 rm => encR 0b0001001#7 rs2.idx rs1.idx rm.code rd.idx 0x53#7
  | .fdivD rd rs1 rs2 rm => encR 0b0001101#7 rs2.idx rs1.idx rm.code rd.idx 0x53#7
  | .fsqrtD rd rs1 rm => encR 0b0101101#7 0b00000#5 rs1.idx rm.code rd.idx 0x53#7
  | .fsgnjD rd rs1 rs2 => encR 0b0010001#7 rs2.idx rs1.idx 0b000#3 rd.idx 0x53#7
  | .fsgnjnD rd rs1 rs2 => encR 0b0010001#7 rs2.idx rs1.idx 0b001#3 rd.idx 0x53#7
  | .fsgnjxD rd rs1 rs2 => encR 0b0010001#7 rs2.idx rs1.idx 0b010#3 rd.idx 0x53#7
  | .fminD rd rs1 rs2 => encR 0b0010101#7 rs2.idx rs1.idx 0b000#3 rd.idx 0x53#7
  | .fmaxD rd rs1 rs2 => encR 0b0010101#7 rs2.idx rs1.idx 0b001#3 rd.idx 0x53#7
  | .fcvtDS rd rs1 rm => encR 0b0100001#7 0b00000#5 rs1.idx rm.code rd.idx 0x53#7
  | .feqD rd rs1 rs2 => encR 0b1010001#7 rs2.idx rs1.idx 0b010#3 rd.idx 0x53#7
  | .fltD rd rs1 rs2 => encR 0b1010001#7 rs2.idx rs1.idx 0b001#3 rd.idx 0x53#7
  | .fleD rd rs1 rs2 => encR 0b1010001#7 rs2.idx rs1.idx 0b000#3 rd.idx 0x53#7
  | .fclassD rd rs1 => encR 0b1110001#7 0b00000#5 rs1.idx 0b001#3 rd.idx 0x53#7
  | .fcvtWD rd rs1 rm => encR 0b1100001#7 0b00000#5 rs1.idx rm.code rd.idx 0x53#7
  | .fcvtWuD rd rs1 rm => encR 0b1100001#7 0b00001#5 rs1.idx rm.code rd.idx 0x53#7
  | .fcvtLD rd rs1 rm => encR 0b1100001#7 0b00010#5 rs1.idx rm.code rd.idx 0x53#7
  | .fcvtLuD rd rs1 rm => encR 0b1100001#7 0b00011#5 rs1.idx rm.code rd.idx 0x53#7
  | .fcvtDW rd rs1 rm => encR 0b1101001#7 0b00000#5 rs1.idx rm.code rd.idx 0x53#7
  | .fcvtDWu rd rs1 rm => encR 0b1101001#7 0b00001#5 rs1.idx rm.code rd.idx 0x53#7
  | .fcvtDL rd rs1 rm => encR 0b1101001#7 0b00010#5 rs1.idx rm.code rd.idx 0x53#7
  | .fcvtDLu rd rs1 rm => encR 0b1101001#7 0b00011#5 rs1.idx rm.code rd.idx 0x53#7
  | .fmvXD rd rs1 => encR 0b1110001#7 0b00000#5 rs1.idx 0b000#3 rd.idx 0x53#7
  | .fmvDX rd rs1 => encR 0b1111001#7 0b00000#5 rs1.idx 0b000#3 rd.idx 0x53#7

end Sys2Proof
end

