-- ==== Sys2Proof/Config.lean ====
section
/-! DEFINITION. What the platform fixes (spec R9, R10, R12, R33, R34, R37) and the free values: the answers of a device
whose behaviour the spec does not give (R42, I2 to I5). -/

namespace Sys2Proof

/-- `EXEC_M` of R9. -/
inductive ExecM where
  | standard
  | unimplemented
  deriving DecidableEq, Repr

/-- `EXEC_A` of R10. -/
inductive ExecA where
  | plain
  | unimplemented
  deriving DecidableEq, Repr

/-- The ordered list of (base, device) pairs a bus is built from (R37), first entry outermost.
A device is a RAM (the reference RAM of D22: plain byte storage of a given size), an external device (a device of the
contract R42 to R44 whose behaviour the spec leaves to the platform), or another bus (R41). -/
inductive Bus where
  | empty
  | ram (base size : Nat) (rest : Bus)
  | external (base size id : Nat) (rest : Bus)
  | nested (base : Nat) (inner : Bus) (rest : Bus)
  deriving DecidableEq, Repr

/-- What an external device is asked to do: read `size` bytes, or write the given bytes, lowest address first (R42). -/
inductive DeviceOp where
  | read (size : Nat)
  | write (bytes : List Byte)
  deriving DecidableEq, Repr

/-- One access made to an external device: which device, at which device-local address, and what (R40, R42). -/
structure DeviceAccess where
  device : Nat
  addr : Nat
  op : DeviceOp
  deriving DecidableEq, Repr

/-- How an external device reports an access that it does not perform: by its size code or its address code, the direction of
the access kept either way, and the value the fault carries (R43, R275, I2). -/
structure AccessReport where
  bySize : Bool
  carried : Nat
  deriving DecidableEq, Repr, Inhabited

/-- How an external device meets an access inside its size. R42 constrains it by R43 and R44 alone, and neither speaks of such an
access: it performs it, refuses it by either code of its direction (a read-only device a write, I4 a width), or reports an
internal fault with an opaque value (I5). -/
inductive DeviceVerdict where
  | accept
  | refuse (r : AccessReport)
  | internal (e : Nat)
  deriving DecidableEq, Repr, Inhabited

/-- FREE VALUE (log entry 7): how an external device meets an access, given every earlier access to external devices. -/
opaque Config.deviceVerdict (history : List DeviceAccess) (a : DeviceAccess) : DeviceVerdict

/-- FREE VALUE (log entry 7): the byte an external device answers at offset `k` of a read. -/
opaque Config.deviceByte (history : List DeviceAccess) (a : DeviceAccess) (k : Nat) : Byte

/-- FREE VALUE (log entry 7): how an external device reports an access past its end. -/
opaque Config.boundsReport (history : List DeviceAccess) (a : DeviceAccess) : AccessReport

/-- The platform parameters a model takes as arguments (R9, R10, R12, R34). The image lists the bytes the host has put
into RAMs before construction (R295), at their core addresses. -/
structure Platform where
  execM : ExecM
  execA : ExecA
  resetPc : Word
  busMap : Bus
  image : List (Nat × Byte)
  deriving DecidableEq, Repr

/-- DESIGN CHOICE (log entries 1 to 5): the platform of the spec's own test programs (R295, D8, D22), one RAM of 0x10000
bytes at base 0, all zero, `RESET_PC` = 0, with M and A executing. -/
def Platform.reference : Platform :=
  { execM := .standard
    execA := .plain
    resetPc := 0#64
    busMap := .ram 0 0x10000 .empty
    image := [] }

end Sys2Proof
end

