-- ==== Sys2Proof/Machine/State.lean ====
section
/-! DEFINITION. The machine's state (spec 10_state.md, 70_reset_and_hazards.md R293), the errors a step can end in (spec
60_exceptions.md R275 to R278), and the state after construction. -/

namespace Sys2Proof.Machine

/-- The bytes behind the bus that a RAM holds, keyed by the address the core uses; addresses strictly rising, and no entry
of the value an unlisted address reads as (log entries 5 and 9). -/
abbrev Memory := List Host.Cell

/-- The state of the machine: everything the spec gives it, and nothing a program can observe besides. -/
structure State where
  /-- x0 to x31 (R20); slot 0 is never read (R21). -/
  x : Vector Word 32
  /-- f0 to f31 (R24). -/
  f : Vector Word 32
  /-- The program counter (R25). -/
  pc : Word
  /-- The contents of the RAMs (R34, R45). -/
  mem : Memory
  /-- The bus map, immutable (R37, R293). -/
  bus : Bus
  /-- `EXEC_M` (R9). -/
  execM : ExecM
  /-- `EXEC_A` (R10). -/
  execA : ExecA
  /-- The accesses made so far to external devices, newest first: the model's own field (log entry 8). -/
  devLog : List DeviceAccess
  deriving DecidableEq, Repr

/-- The device faults of R275. -/
inductive DeviceFault where
  /-- A read at an address no device owns, or past a device's end (R40, R43). -/
  | invalidReadAddress (addr : Nat)
  /-- A write at an address no device owns, or past a device's end (R40, R43). -/
  | invalidWriteAddress (addr : Nat)
  /-- A read width the device does not accept (R44). -/
  | invalidReadSize (size : Nat)
  /-- A write width the device does not accept (R44). -/
  | invalidWriteSize (size : Nat)
  /-- An opaque fault of a device's own (R275, I5). -/
  | internal (e : Nat)
  deriving DecidableEq, Repr

/-- The execute faults of R277. -/
inductive ExecuteFault where
  /-- The instruction decoded but has no implemented semantics (R119). -/
  | unimplemented (v : Variant)
  /-- A device fault of a data access, propagated unchanged (R120). -/
  | device (f : DeviceFault)
  deriving DecidableEq, Repr

/-- `CoreError` of R278, the errors a step returns. Each is the spec's own outcome and so neither hides nor invents
behaviour: safe. The state after an error is the state before the step (R280). -/
inductive Fault where
  /-- Raised by `step` when the instruction fetch faulted (R50). Safe: the spec's own error. -/
  | device (f : DeviceFault)
  /-- Raised by `step` when the fetched word decoded to no instruction (R101). Safe: the spec's own error. -/
  | decode (d : DecodeFault)
  /-- Raised by a meaning: Unimplemented (R119) or a data access that faulted (R120). Safe: the spec's own error. -/
  | execute (e : ExecuteFault)
  deriving DecidableEq, Repr

/-- What the model gives no meaning to. -/
inductive Refusal where
  /-- Raised by `exec` for an instruction that has no meaning yet (none has that today). Safe: the run stops. -/
  | notModelled (mnemonic : String)
  /-- Raised by `construct` for a bus map with overlapping ranges, which R38 says a model refuses. Safe: no state is built. -/
  | overlappingBusMap
  deriving DecidableEq, Repr

/-- The state right after construction (R32, R293) on the reference platform (log entries 1 to 5 and 8). -/
def State.reset : State :=
  { x := Vector.replicate 32 0#64
    f := Vector.replicate 32 0#64
    pc := Platform.reference.resetPc
    mem := []
    bus := Platform.reference.busMap
    execM := Platform.reference.execM
    execA := Platform.reference.execA
    devLog := [] }

end Sys2Proof.Machine
end

