-- ==== Sys2Proof/Machine/Bus.lean ====
section
/-! DEFINITION. The bus as an address-range dispatcher (spec 20_memory.md R37 to R41). -/

namespace Sys2Proof.Machine

/-- `address_space_size` of R37: the largest end of an entry's range, 0 for an empty list (D9). -/
def busSize : Bus → Nat
  | .empty => 0
  | .ram base size rest => max (base + size) (busSize rest)
  | .external base size _ rest => max (base + size) (busSize rest)
  | .nested base inner rest => max (base + busSize inner) (busSize rest)

/-- The device at the end of a resolution: its size, and for an external device which one it is. -/
inductive Leaf where
  | ram (size : Nat)
  | external (size id : Nat)
  deriving DecidableEq, Repr

/-- `device.address_space_size()` of R42. -/
def Leaf.size : Leaf → Nat
  | .ram size => size
  | .external size _ => size

/-- What resolving an address yields: the one owning device and the device-local address, or a miss with the address as
the bus that missed saw it (R39, R40, I22). -/
inductive Resolution where
  | found (d : Leaf) (loc : Nat)
  | miss (addr : Nat)
  deriving DecidableEq, Repr

/-- The half-open range `[base, base + size)` holds `addr` (R37). -/
abbrev InRange (base size addr : Nat) : Prop := base ≤ addr ∧ addr < base + size

/-- `resolve` of R39 through every level of nesting, each level subtracting its own range start (R40, R41). -/
def resolve : Bus → Nat → Resolution
  | .empty, a => .miss a
  | .ram base size rest, a => if InRange base size a then .found (.ram size) (a - base) else resolve rest a
  | .external base size id rest, a => if InRange base size a then .found (.external size id) (a - base) else resolve rest a
  | .nested base inner rest, a => if InRange base (busSize inner) a then resolve inner (a - base) else resolve rest a

/-- Two ranges share no address: one is empty, or one ends before the other begins (R38). -/
def rangesDisjoint (base size base' size' : Nat) : Bool :=
  size == 0 || size' == 0 || base + size ≤ base' || base' + size' ≤ base

/-- No entry of this level of a bus map overlaps the range. -/
def rangeClear (base size : Nat) : Bus → Bool
  | .empty => true
  | .ram b s rest => rangesDisjoint base size b s && rangeClear base size rest
  | .external b s _ rest => rangesDisjoint base size b s && rangeClear base size rest
  | .nested b inner rest => rangesDisjoint base size b (busSize inner) && rangeClear base size rest

/-- A well-formed bus map: the ranges of each level are pairwise disjoint (R38). -/
def busWf : Bus → Bool
  | .empty => true
  | .ram b s rest => rangeClear b s rest && busWf rest
  | .external b s _ rest => rangeClear b s rest && busWf rest
  | .nested b inner rest => rangeClear b (busSize inner) rest && busWf inner && busWf rest

/-- A RAM holds the byte at this address. -/
def ramAt (bus : Bus) (a : Nat) : Bool :=
  match resolve bus a with
  | .found (.ram _) _ => true
  | .found (.external _ _) _ => false
  | .miss _ => false

end Sys2Proof.Machine
end

