-- ==== Sys2Proof/Machine/Ops.lean ====
section
/-! DEFINITION. The named operations on registers, the program counter, RAM contents, devices and the bus, the core's access
primitives, the raising of an error, and the instruction fetch. -/

namespace Sys2Proof.Machine

/-! ## Registers and the program counter -/

/-- `x[r]`: x0 reads 0 whatever was written (R21). -/
def State.readX (s : State) (r : XReg) : Word := if r.idx = 0#5 then 0#64 else s.x[r.idx.toNat]

/-- `x[r] <- v`: a write to x0 is accepted and has no effect (R21). -/
def State.writeX (s : State) (r : XReg) (v : Word) : State :=
  if r.idx = 0#5 then s else { s with x := s.x.set r.idx.toNat v }

/-- `f[r]`: no f register is special (R24). -/
def State.readF (s : State) (r : FReg) : Word := s.f[r.idx.toNat]

/-- `f[r] <- v` (R16, R24). -/
def State.writeF (s : State) (r : FReg) (v : Word) : State := { s with f := s.f.set r.idx.toNat v }

/-- The default advance `pc <- pc + 4`, modulo 2^64 (R26, R117). -/
def State.advance (s : State) : State := { s with pc := s.pc + 4#64 }

/-- The explicit set `pc <- target` (R117). -/
def State.jump (s : State) (target : Word) : State := { s with pc := target }

/-! ## RAM contents -/

/-- What an address of a RAM that is not listed reads as: the reference RAM is zero-initialized (D22, log entry 5). -/
def Memory.unlisted : Byte := 0#8

/-- The byte at an address of a RAM. -/
def Memory.read : Memory → Nat → Byte
  | [], _ => Memory.unlisted
  | (k, c) :: m, a => if a = k then c else Memory.read m a

/-- The contents with one entry in front, unless it says what an unlisted address reads as. -/
def Memory.put (a : Nat) (b : Byte) (m : Memory) : Memory := if b = Memory.unlisted then m else (a, b) :: m

/-- The contents after one byte is written. -/
def Memory.write : Memory → Nat → Byte → Memory
  | [], a, b => Memory.put a b []
  | (k, c) :: m, a, b =>
    if a < k then Memory.put a b ((k, c) :: m)
    else if a = k then Memory.put a b m
    else (k, c) :: Memory.write m a b

/-- The canonical form: addresses strictly rising, no entry of the unlisted value. -/
abbrev Memory.wf (m : Memory) : Prop :=
  m.Pairwise (fun p q => p.1 < q.1) ∧ ∀ c ∈ m, c.2 ≠ Memory.unlisted

/-- The `n` bytes from an address on. -/
def Memory.readBytes (m : Memory) (a : Nat) : Nat → List Byte
  | 0 => []
  | n + 1 => Memory.read m a :: Memory.readBytes m (a + 1) n

/-- The contents after these bytes are written from an address on. -/
def Memory.writeBytes : Memory → Nat → List Byte → Memory
  | m, _, [] => m
  | m, a, b :: bs => Memory.writeBytes (Memory.write m a b) (a + 1) bs

/-! ## Devices and the bus: the four operations of the contract (R40 to R44) -/

/-- An external device's report of a read it does not perform (R43, R275). -/
def reportedReadFault (r : AccessReport) : DeviceFault :=
  if r.bySize then .invalidReadSize r.carried else .invalidReadAddress r.carried

/-- An external device's report of a write it does not perform (R43, R275). -/
def reportedWriteFault (r : AccessReport) : DeviceFault :=
  if r.bySize then .invalidWriteSize r.carried else .invalidWriteAddress r.carried

/-- A device checks every access against its size (R43). -/
abbrev Leaf.fits (d : Leaf) (loc n : Nat) : Prop := loc + n ≤ d.size

/-- The bytes an external device answers to a read it performs. -/
def externalBytes (history : List DeviceAccess) (a : DeviceAccess) (n : Nat) : List Byte :=
  (List.range n).map (Config.deviceByte history a)

/-- A read of an external device: the access joins its history when it performs it (log entries 7 and 8). -/
def externalRead (s : State) (size id loc n : Nat) : Except DeviceFault (List Byte × State) :=
  if (Leaf.external size id).fits loc n then
    match Config.deviceVerdict s.devLog ⟨id, loc, .read n⟩ with
    | .accept => .ok (externalBytes s.devLog ⟨id, loc, .read n⟩ n, { s with devLog := ⟨id, loc, .read n⟩ :: s.devLog })
    | .refuse r => .error (reportedReadFault r)
    | .internal e => .error (.internal e)
  else .error (reportedReadFault (Config.boundsReport s.devLog ⟨id, loc, .read n⟩))

/-- A write of an external device. -/
def externalWrite (s : State) (size id loc : Nat) (bs : List Byte) : Except DeviceFault State :=
  if (Leaf.external size id).fits loc bs.length then
    match Config.deviceVerdict s.devLog ⟨id, loc, .write bs⟩ with
    | .accept => .ok { s with devLog := ⟨id, loc, .write bs⟩ :: s.devLog }
    | .refuse r => .error (reportedWriteFault r)
    | .internal e => .error (.internal e)
  else .error (reportedWriteFault (Config.boundsReport s.devLog ⟨id, loc, .write bs⟩))

/-- `read_bytes` on the outermost bus (R40): only the first byte's address is resolved, and the whole access goes to that
device, never split. A RAM's bytes are held at the core addresses `a, a + 1, ...` of its local ones (R47, log entry 9). -/
def busReadBytes (s : State) (a n : Nat) : Except DeviceFault (List Byte × State) :=
  match resolve s.bus a with
  | .miss m => .error (.invalidReadAddress m)
  | .found (.ram size) loc =>
    if (Leaf.ram size).fits loc n then .ok (s.mem.readBytes a n, s) else .error (.invalidReadAddress loc)
  | .found (.external size id) loc => externalRead s size id loc n

/-- `write_bytes` on the outermost bus (R40); a faulting write writes no byte (R43). -/
def busWriteBytes (s : State) (a : Nat) (bs : List Byte) : Except DeviceFault State :=
  match resolve s.bus a with
  | .miss m => .error (.invalidWriteAddress m)
  | .found (.ram size) loc =>
    if (Leaf.ram size).fits loc bs.length then .ok { s with mem := s.mem.writeBytes a bs }
    else .error (.invalidWriteAddress loc)
  | .found (.external size id) loc => externalWrite s size id loc bs

/-- The byte orders of R44. -/
inductive Endian where
  | little
  | big
  deriving DecidableEq, Repr

/-- The bytes of an access in order from least significant, whatever their order in memory (R44). -/
def orderBytes (e : Endian) (bs : List Byte) : List Byte :=
  match e with
  | .little => bs
  | .big => bs.reverse

/-- The widths an integer access may have (R44, C1). -/
abbrev IntWidth (n : Nat) : Prop := n = 1 ∨ n = 2 ∨ n = 4 ∨ n = 8

/-- An `n`-byte value extended to 64 bits, with its sign or with zeros (R15, R44). -/
def extendBytes (signed : Bool) (n v : Nat) : Word :=
  if signed then (BitVec.ofNat (8 * n) v).signExtend 64 else BitVec.ofNat 64 v

/-- `read_int` on the outermost bus (R44): `read_bytes` packed in the byte order and extended. -/
def busReadInt (s : State) (a n : Nat) (e : Endian) (signed : Bool) : Except DeviceFault (Word × State) :=
  if IntWidth n then
    match busReadBytes s a n with
    | .ok (bs, s') => .ok (extendBytes signed n (packLittle (orderBytes e bs)), s')
    | .error f => .error f
  else
    match resolve s.bus a with
    | .miss m => .error (.invalidReadAddress m)
    | .found _ _ => .error (.invalidReadSize n)

/-- `write_int` on the outermost bus (R44): the low `8n` bits unpacked in the byte order, as `write_bytes`. -/
def busWriteInt (s : State) (a : Nat) (v : Word) (n : Nat) (e : Endian) : Except DeviceFault State :=
  if IntWidth n then busWriteBytes s a (orderBytes e (unpackLittle n v.toNat))
  else
    match resolve s.bus a with
    | .miss m => .error (.invalidWriteAddress m)
    | .found _ _ => .error (.invalidWriteSize n)

/-! ## The core's access primitives -/

/-- `MemRead(addr, n)` (R17, R47): little-endian, zero-extended. -/
def memRead (s : State) (addr : Word) (n : Nat) : Except DeviceFault (Word × State) :=
  busReadInt s addr.toNat n .little false

/-- `MemWrite(addr, n, v)` (R17, R48): the low `8n` bits, little-endian. -/
def memWrite (s : State) (addr : Word) (n : Nat) (v : Word) : Except DeviceFault State :=
  busWriteInt s addr.toNat v n .little

/-! ## Raising an error (R18, R280, R282)

The hardware has no trap entry and no trap return: an error ends the step as its return value, and nothing is saved. -/

/-- `raise F` from the executor. -/
def raise (e : ExecuteFault) : Host.Outcome State Fault Refusal := .fault (.execute e)

/-- `raise Unimplemented(instr)` (R119). -/
def unimplemented (i : Instr) : Host.Outcome State Fault Refusal := raise (.unimplemented (.instr i))

/-- The end of an instruction that writes an integer result: `x[rd] <- v; pc <- pc + 4` (R116 to R118). -/
def retire (s : State) (rd : XReg) (v : Word) : Host.Outcome State Fault Refusal := .next (s.writeX rd v).advance

/-! ## Instruction fetch (R50) -/

/-- `word <- MemRead(pc, 4)[31:0]`. -/
def fetch (s : State) : Except DeviceFault (InstrWord × State) :=
  match memRead s s.pc 4 with
  | .ok (v, s') => .ok (v.setWidth 32, s')
  | .error f => .error f

/-- The fetch at the pc reads a RAM. -/
def fetchesRam (s : State) : Bool :=
  match resolve s.bus s.pc.toNat with
  | .found (.ram size) loc => loc + 4 ≤ size
  | .found (.external _ _) _ => false
  | .miss _ => false

/-- The state with a word placed where the next step fetches; where no RAM is there, a RAM of its four bytes is put in front
of the bus map (log entry 14). -/
def placeWord (s : State) (w : Nat) : State :=
  { s with
    mem := s.mem.writeBytes s.pc.toNat (unpackLittle 4 w)
    bus := if fetchesRam s then s.bus else .ram s.pc.toNat 4 s.bus }

end Sys2Proof.Machine
end

