-- ==== Sys2Proof/Machine/Flags.lean ====
section
/-! DEFINITION. The hardware has no flags and no condition codes (spec R27): what other machines take from flags comes here
from the branch comparator of spec 40_execute.md R114, whole. -/

namespace Sys2Proof.Machine

/-- The six conditions of R114. -/
inductive Cond where
  | eq
  | ne
  | lt
  | ge
  | ltu
  | geu
  deriving DecidableEq, Repr

/-- `signed(a) < signed(b)` (R14). -/
def ltSigned (a b : Word) : Bool := decide (a.toInt < b.toInt)

/-- `unsigned(a) < unsigned(b)` (R14). -/
def ltUnsigned (a b : Word) : Bool := decide (a.toNat < b.toNat)

/-- The comparator `cmp(cond, a, b)` (R114): each condition reads its operands as signed or as unsigned, never both. -/
def cmp (c : Cond) (a b : Word) : Bool :=
  match c with
  | .eq => a == b
  | .ne => a != b
  | .lt => ltSigned a b
  | .ge => !ltSigned a b
  | .ltu => ltUnsigned a b
  | .geu => !ltUnsigned a b

end Sys2Proof.Machine
end

