-- ==== Sys2Proof/Machine/Alu.lean ====
section
/-! DEFINITION. The integer ALU: a function of its operation and its two operands (spec 40_execute.md R111 to R113). -/

namespace Sys2Proof.Machine

/-- The fifteen operations of R112. -/
inductive AluOp where
  | add
  | sub
  | sll
  | srl
  | sra
  | slt
  | sltu
  | xor
  | or
  | and
  | addw
  | subw
  | sllw
  | srlw
  | sraw
  deriving DecidableEq, Repr

/-- `b[5:0]`, the amount of a 64-bit shift (R112). -/
def amount6 (b : Word) : Nat := (b.extractLsb' 0 6).toNat

/-- `b[4:0]`, the amount of a 32-bit shift (R112). -/
def amount5 (b : Word) : Nat := (b.extractLsb' 0 5).toNat

/-- `v[31:0]`. -/
def low32 (v : Word) : BitVec 32 := v.extractLsb' 0 32

/-- `sext_64` of a 32-bit value (R15). -/
def sext32 (v : BitVec 32) : Word := v.signExtend 64

/-- `alu(op, a, b)` (R112). -/
def alu (op : AluOp) (a b : Word) : Word :=
  match op with
  | .add => a + b
  | .sub => a - b
  | .sll => a <<< amount6 b
  | .srl => a >>> amount6 b
  | .sra => a.sshiftRight (amount6 b)
  | .slt => boolWord (ltSigned a b)
  | .sltu => boolWord (ltUnsigned a b)
  | .xor => a ^^^ b
  | .or => a ||| b
  | .and => a &&& b
  | .addw => sext32 (low32 (a + b))
  | .subw => sext32 (low32 (a - b))
  | .sllw => sext32 (low32 a <<< amount5 b)
  | .srlw => sext32 (low32 a >>> amount5 b)
  | .sraw => sext32 ((low32 a).sshiftRight (amount5 b))

end Sys2Proof.Machine
end

