-- ==== Sys2Proof/Machine/Operands.lean ====
section
/-! DEFINITION. The operand forms: base plus displacement, register and immediate operands of the ALU, branch and jump
targets, loaded and stored values, and the shared shape of the instructions that use them. -/

namespace Sys2Proof.Machine

/-- `x[rs1] + imm` modulo 2^64, the one addressing mode of loads and stores (R36). -/
def effectiveAddress (s : State) (rs1 : XReg) (imm : Word) : Word := s.readX rs1 + imm

/-- `pc + imm` modulo 2^64: a branch or JAL target, and AUIPC's result (R26). -/
def pcRelative (s : State) (imm : Word) : Word := s.pc + imm

/-- `(x[rs1] + imm) & ~1`: the target of JALR (R154). -/
def jalrTarget (s : State) (rs1 : XReg) (imm : Word) : Word := (s.readX rs1 + imm) &&& ~~~1#64

/-- `pc + 4`, the link value (R153, R154). -/
def linkValue (s : State) : Word := s.pc + 4#64

/-- `zext_64(shamt)`: the second operand of a shift by an immediate (R111). -/
def shamtOperand {n : Nat} (shamt : BitVec n) : Word := shamt.setWidth 64

/-- A register-register ALU instruction: `x[rd] <- alu(op, x[rs1], x[rs2]); pc <- pc + 4` (R111). -/
def aluReg (op : AluOp) (rd rs1 rs2 : XReg) (s : State) : Host.Outcome State Fault Refusal :=
  retire s rd (alu op (s.readX rs1) (s.readX rs2))

/-- A register-immediate ALU instruction: `x[rd] <- alu(op, x[rs1], b); pc <- pc + 4` (R111). -/
def aluImm (op : AluOp) (rd rs1 : XReg) (b : Word) (s : State) : Host.Outcome State Fault Refusal :=
  retire s rd (alu op (s.readX rs1) b)

/-- A conditional branch (R114, R155 to R160): `pc + imm` if the condition holds, else the default advance. -/
def branch (c : Cond) (rs1 rs2 : XReg) (imm : Word) (s : State) : Host.Outcome State Fault Refusal :=
  if cmp c (s.readX rs1) (s.readX rs2) then .next (s.jump (pcRelative s imm)) else .next s.advance

/-- A load of `n` bytes at `addr`, extended by `ext` into rd; every access precedes the register write (R116), and a device
fault is the executor's error (R120). -/
def load (n : Nat) (ext : Word → Word) (rd : XReg) (addr : Word) (s : State) : Host.Outcome State Fault Refusal :=
  match memRead s addr n with
  | .ok (v, s') => retire s' rd (ext v)
  | .error f => raise (.device f)

/-- A store of the low `n` bytes of `v` at `addr` (R168 to R171). -/
def store (n : Nat) (addr v : Word) (s : State) : Host.Outcome State Fault Refusal :=
  match memWrite s addr n v with
  | .ok s' => .next s'.advance
  | .error f => raise (.device f)

/-- `sext_64(v[8n-1:0])` of a loaded value. -/
def sextBytes (n : Nat) (v : Word) : Word := (v.setWidth (8 * n)).signExtend 64

/-- `zext_64(v[8n-1:0])` of a loaded value. -/
def zextBytes (n : Nat) (v : Word) : Word := (v.setWidth (8 * n)).setWidth 64

end Sys2Proof.Machine
end

