-- ==== Sys2Proof/Machine/Atomic.lean ====
section
/-! DEFINITION. The atomic memory instructions (spec 46_atomic.md R190 to R211) as plain accesses, under `EXEC_A` (R10). No
reservation exists, aq and rl order nothing, and no address need be aligned (D15). -/

namespace Sys2Proof.Machine

/-- The operations of the AMOs (R194 to R211). -/
inductive AmoOp where
  | swap
  | add
  | xor
  | and
  | or
  | min
  | max
  | minu
  | maxu
  deriving DecidableEq, Repr

/-- `new = op(old, b)` at the access width. -/
def amoResult {n : Nat} (op : AmoOp) (old b : BitVec n) : BitVec n :=
  match op with
  | .swap => b
  | .add => old + b
  | .xor => old ^^^ b
  | .and => old &&& b
  | .or => old ||| b
  | .min => if old.toInt ≤ b.toInt then old else b
  | .max => if b.toInt ≤ old.toInt then old else b
  | .minu => if old.toNat ≤ b.toNat then old else b
  | .maxu => if b.toNat ≤ old.toNat then old else b

/-- The shape of every A instruction: `Unimplemented` before anything is read where `EXEC_A` says so (R10, R119). -/
def atomic (i : Instr) (plain : State → Host.Outcome State Fault Refusal) (s : State) : Host.Outcome State Fault Refusal :=
  match s.execA with
  | .unimplemented => unimplemented i
  | .plain => plain s

/-- LR as a plain load: no reservation is made (R190, R192). -/
def loadReserved (n : Nat) (rd rs1 : XReg) (s : State) : Host.Outcome State Fault Refusal :=
  load n (sextBytes n) rd (s.readX rs1) s

/-- SC as a plain store that always succeeds: rd gets 0 unless the store faults (R191, R193). -/
def storeConditional (n : Nat) (rd rs1 rs2 : XReg) (s : State) : Host.Outcome State Fault Refusal :=
  match memWrite s (s.readX rs1) n (s.readX rs2) with
  | .ok s' => retire s' rd 0#64
  | .error f => raise (.device f)

/-- An AMO of width `n` bytes: read, compute, write, and the old value, sign-extended, into rd; a fault of either access is
the executor's error and commits nothing (R194 to R211, R280). -/
def amo (n : Nat) (op : AmoOp) (rd rs1 rs2 : XReg) (s : State) : Host.Outcome State Fault Refusal :=
  match memRead s (s.readX rs1) n with
  | .error f => raise (.device f)
  | .ok (v, s') =>
    match memWrite s' (s.readX rs1) n
        ((amoResult op (v.setWidth (8 * n)) ((s.readX rs2).setWidth (8 * n))).setWidth 64) with
    | .error f => raise (.device f)
    | .ok s'' => retire s'' rd (sextBytes n v)

/-- LR.W (R190). -/
def execLrW (rd rs1 : XReg) (aq rl : Bool) (s : State) : Host.Outcome State Fault Refusal :=
  atomic (.lrW rd rs1 aq rl) (loadReserved 4 rd rs1) s

/-- SC.W (R191). -/
def execScW (rd rs1 rs2 : XReg) (aq rl : Bool) (s : State) : Host.Outcome State Fault Refusal :=
  atomic (.scW rd rs1 rs2 aq rl) (storeConditional 4 rd rs1 rs2) s

/-- AMOSWAP.W (R194). -/
def execAmoswapW (rd rs1 rs2 : XReg) (aq rl : Bool) (s : State) : Host.Outcome State Fault Refusal :=
  atomic (.amoswapW rd rs1 rs2 aq rl) (amo 4 .swap rd rs1 rs2) s

/-- AMOADD.W (R195). -/
def execAmoaddW (rd rs1 rs2 : XReg) (aq rl : Bool) (s : State) : Host.Outcome State Fault Refusal :=
  atomic (.amoaddW rd rs1 rs2 aq rl) (amo 4 .add rd rs1 rs2) s

/-- AMOXOR.W (R196). -/
def execAmoxorW (rd rs1 rs2 : XReg) (aq rl : Bool) (s : State) : Host.Outcome State Fault Refusal :=
  atomic (.amoxorW rd rs1 rs2 aq rl) (amo 4 .xor rd rs1 rs2) s

/-- AMOAND.W (R197). -/
def execAmoandW (rd rs1 rs2 : XReg) (aq rl : Bool) (s : State) : Host.Outcome State Fault Refusal :=
  atomic (.amoandW rd rs1 rs2 aq rl) (amo 4 .and rd rs1 rs2) s

/-- AMOOR.W (R198). -/
def execAmoorW (rd rs1 rs2 : XReg) (aq rl : Bool) (s : State) : Host.Outcome State Fault Refusal :=
  atomic (.amoorW rd rs1 rs2 aq rl) (amo 4 .or rd rs1 rs2) s

/-- AMOMIN.W (R199). -/
def execAmominW (rd rs1 rs2 : XReg) (aq rl : Bool) (s : State) : Host.Outcome State Fault Refusal :=
  atomic (.amominW rd rs1 rs2 aq rl) (amo 4 .min rd rs1 rs2) s

/-- AMOMAX.W (R200). -/
def execAmomaxW (rd rs1 rs2 : XReg) (aq rl : Bool) (s : State) : Host.Outcome State Fault Refusal :=
  atomic (.amomaxW rd rs1 rs2 aq rl) (amo 4 .max rd rs1 rs2) s

/-- AMOMINU.W (R201). -/
def execAmominuW (rd rs1 rs2 : XReg) (aq rl : Bool) (s : State) : Host.Outcome State Fault Refusal :=
  atomic (.amominuW rd rs1 rs2 aq rl) (amo 4 .minu rd rs1 rs2) s

/-- AMOMAXU.W (R202). -/
def execAmomaxuW (rd rs1 rs2 : XReg) (aq rl : Bool) (s : State) : Host.Outcome State Fault Refusal :=
  atomic (.amomaxuW rd rs1 rs2 aq rl) (amo 4 .maxu rd rs1 rs2) s

/-- LR.D (R192). -/
def execLrD (rd rs1 : XReg) (aq rl : Bool) (s : State) : Host.Outcome State Fault Refusal :=
  atomic (.lrD rd rs1 aq rl) (loadReserved 8 rd rs1) s

/-- SC.D (R193). -/
def execScD (rd rs1 rs2 : XReg) (aq rl : Bool) (s : State) : Host.Outcome State Fault Refusal :=
  atomic (.scD rd rs1 rs2 aq rl) (storeConditional 8 rd rs1 rs2) s

/-- AMOSWAP.D (R203). -/
def execAmoswapD (rd rs1 rs2 : XReg) (aq rl : Bool) (s : State) : Host.Outcome State Fault Refusal :=
  atomic (.amoswapD rd rs1 rs2 aq rl) (amo 8 .swap rd rs1 rs2) s

/-- AMOADD.D (R204). -/
def execAmoaddD (rd rs1 rs2 : XReg) (aq rl : Bool) (s : State) : Host.Outcome State Fault Refusal :=
  atomic (.amoaddD rd rs1 rs2 aq rl) (amo 8 .add rd rs1 rs2) s

/-- AMOXOR.D (R205). -/
def execAmoxorD (rd rs1 rs2 : XReg) (aq rl : Bool) (s : State) : Host.Outcome State Fault Refusal :=
  atomic (.amoxorD rd rs1 rs2 aq rl) (amo 8 .xor rd rs1 rs2) s

/-- AMOAND.D (R206). -/
def execAmoandD (rd rs1 rs2 : XReg) (aq rl : Bool) (s : State) : Host.Outcome State Fault Refusal :=
  atomic (.amoandD rd rs1 rs2 aq rl) (amo 8 .and rd rs1 rs2) s

/-- AMOOR.D (R207). -/
def execAmoorD (rd rs1 rs2 : XReg) (aq rl : Bool) (s : State) : Host.Outcome State Fault Refusal :=
  atomic (.amoorD rd rs1 rs2 aq rl) (amo 8 .or rd rs1 rs2) s

/-- AMOMIN.D (R208). -/
def execAmominD (rd rs1 rs2 : XReg) (aq rl : Bool) (s : State) : Host.Outcome State Fault Refusal :=
  atomic (.amominD rd rs1 rs2 aq rl) (amo 8 .min rd rs1 rs2) s

/-- AMOMAX.D (R209). -/
def execAmomaxD (rd rs1 rs2 : XReg) (aq rl : Bool) (s : State) : Host.Outcome State Fault Refusal :=
  atomic (.amomaxD rd rs1 rs2 aq rl) (amo 8 .max rd rs1 rs2) s

/-- AMOMINU.D (R210). -/
def execAmominuD (rd rs1 rs2 : XReg) (aq rl : Bool) (s : State) : Host.Outcome State Fault Refusal :=
  atomic (.amominuD rd rs1 rs2 aq rl) (amo 8 .minu rd rs1 rs2) s

/-- AMOMAXU.D (R211). -/
def execAmomaxuD (rd rs1 rs2 : XReg) (aq rl : Bool) (s : State) : Host.Outcome State Fault Refusal :=
  atomic (.amomaxuD rd rs1 rs2 aq rl) (amo 8 .maxu rd rs1 rs2) s

end Sys2Proof.Machine
end

