-- ==== Sys2Proof/Machine/Control.lean ====
section
/-! DEFINITION. The control transfer instructions (spec 42_control_transfer.md R153 to R160). No target is checked for
alignment (R52). -/

namespace Sys2Proof.Machine

/-- JAL (R153). -/
def execJal (rd : XReg) (imm : Word) (s : State) : Host.Outcome State Fault Refusal :=
  .next ((s.writeX rd (linkValue s)).jump (pcRelative s imm))

/-- JALR (R154): the target uses x[rs1] from before rd is written (C4). -/
def execJalr (rd rs1 : XReg) (imm : Word) (s : State) : Host.Outcome State Fault Refusal :=
  .next ((s.writeX rd (linkValue s)).jump (jalrTarget s rs1 imm))

/-- BEQ (R155). -/
def execBeq (rs1 rs2 : XReg) (imm : Word) (s : State) : Host.Outcome State Fault Refusal :=
  branch .eq rs1 rs2 imm s

/-- BNE (R156). -/
def execBne (rs1 rs2 : XReg) (imm : Word) (s : State) : Host.Outcome State Fault Refusal :=
  branch .ne rs1 rs2 imm s

/-- BLT (R157). -/
def execBlt (rs1 rs2 : XReg) (imm : Word) (s : State) : Host.Outcome State Fault Refusal :=
  branch .lt rs1 rs2 imm s

/-- BGE (R158). -/
def execBge (rs1 rs2 : XReg) (imm : Word) (s : State) : Host.Outcome State Fault Refusal :=
  branch .ge rs1 rs2 imm s

/-- BLTU (R159). -/
def execBltu (rs1 rs2 : XReg) (imm : Word) (s : State) : Host.Outcome State Fault Refusal :=
  branch .ltu rs1 rs2 imm s

/-- BGEU (R160). -/
def execBgeu (rs1 rs2 : XReg) (imm : Word) (s : State) : Host.Outcome State Fault Refusal :=
  branch .geu rs1 rs2 imm s

end Sys2Proof.Machine
end

