-- ==== Sys2Proof/Machine/FenceSystem.lean ====
section
/-! DEFINITION. Fences and environment instructions (spec 44_fence_system.md R172 to R176): each only advances the pc. -/

namespace Sys2Proof.Machine

/-- The whole effect of a fence or environment instruction: `pc <- pc + 4`. -/
def onlyAdvance (s : State) : Host.Outcome State Fault Refusal := .next s.advance

/-- FENCE (R172): its fields are carried and never read (R82). -/
def execFence (_fm _pred _succ : BitVec 4) (_rs1 _rd : XReg) (s : State) : Host.Outcome State Fault Refusal := onlyAdvance s

/-- PAUSE (R173): it does not wait. -/
def execPause (s : State) : Host.Outcome State Fault Refusal := onlyAdvance s

/-- FENCE.I (R174): a store is already visible to the next fetch (R60). -/
def execFenceI (_rd _rs1 : XReg) (_imm : Word) (s : State) : Host.Outcome State Fault Refusal := onlyAdvance s

/-- ECALL (R175): no exception is raised and no handler runs. -/
def execEcall (s : State) : Host.Outcome State Fault Refusal := onlyAdvance s

/-- EBREAK (R176): no breakpoint exception and no debugger entry. -/
def execEbreak (s : State) : Host.Outcome State Fault Refusal := onlyAdvance s

end Sys2Proof.Machine
end

