-- ==== Sys2Proof/Machine/Float.lean ====
section
/-! DEFINITION. The floating-point instructions (spec 47_float.md R212 to R273): each decodes and executes as the
Unimplemented execute fault, which is what the spec gives it (R11, R119). No register, memory byte or pc changes, and no
access is made, even by FLW, FLD, FSW and FSD. -/

namespace Sys2Proof.Machine

/-- FLW (R212). -/
def execFlw (rd : FReg) (rs1 : XReg) (imm : Word) (_s : State) : Host.Outcome State Fault Refusal :=
  unimplemented (.flw rd rs1 imm)

/-- FSW (R213). -/
def execFsw (rs1 : XReg) (rs2 : FReg) (imm : Word) (_s : State) : Host.Outcome State Fault Refusal :=
  unimplemented (.fsw rs1 rs2 imm)

/-- FMADD.S (R214). -/
def execFmaddS (rd rs1 rs2 rs3 : FReg) (rm : RoundingMode) (_s : State) : Host.Outcome State Fault Refusal :=
  unimplemented (.fmaddS rd rs1 rs2 rs3 rm)

/-- FMSUB.S (R215). -/
def execFmsubS (rd rs1 rs2 rs3 : FReg) (rm : RoundingMode) (_s : State) : Host.Outcome State Fault Refusal :=
  unimplemented (.fmsubS rd rs1 rs2 rs3 rm)

/-- FNMSUB.S (R216). -/
def execFnmsubS (rd rs1 rs2 rs3 : FReg) (rm : RoundingMode) (_s : State) : Host.Outcome State Fault Refusal :=
  unimplemented (.fnmsubS rd rs1 rs2 rs3 rm)

/-- FNMADD.S (R217). -/
def execFnmaddS (rd rs1 rs2 rs3 : FReg) (rm : RoundingMode) (_s : State) : Host.Outcome State Fault Refusal :=
  unimplemented (.fnmaddS rd rs1 rs2 rs3 rm)

/-- FADD.S (R218). -/
def execFaddS (rd rs1 rs2 : FReg) (rm : RoundingMode) (_s : State) : Host.Outcome State Fault Refusal :=
  unimplemented (.faddS rd rs1 rs2 rm)

/-- FSUB.S (R219). -/
def execFsubS (rd rs1 rs2 : FReg) (rm : RoundingMode) (_s : State) : Host.Outcome State Fault Refusal :=
  unimplemented (.fsubS rd rs1 rs2 rm)

/-- FMUL.S (R220). -/
def execFmulS (rd rs1 rs2 : FReg) (rm : RoundingMode) (_s : State) : Host.Outcome State Fault Refusal :=
  unimplemented (.fmulS rd rs1 rs2 rm)

/-- FDIV.S (R221). -/
def execFdivS (rd rs1 rs2 : FReg) (rm : RoundingMode) (_s : State) : Host.Outcome State Fault Refusal :=
  unimplemented (.fdivS rd rs1 rs2 rm)

/-- FSQRT.S (R222). -/
def execFsqrtS (rd rs1 : FReg) (rm : RoundingMode) (_s : State) : Host.Outcome State Fault Refusal :=
  unimplemented (.fsqrtS rd rs1 rm)

/-- FSGNJ.S (R223). -/
def execFsgnjS (rd rs1 rs2 : FReg) (_s : State) : Host.Outcome State Fault Refusal :=
  unimplemented (.fsgnjS rd rs1 rs2)

/-- FSGNJN.S (R224). -/
def execFsgnjnS (rd rs1 rs2 : FReg) (_s : State) : Host.Outcome State Fault Refusal :=
  unimplemented (.fsgnjnS rd rs1 rs2)

/-- FSGNJX.S (R225). -/
def execFsgnjxS (rd rs1 rs2 : FReg) (_s : State) : Host.Outcome State Fault Refusal :=
  unimplemented (.fsgnjxS rd rs1 rs2)

/-- FMIN.S (R226). -/
def execFminS (rd rs1 rs2 : FReg) (_s : State) : Host.Outcome State Fault Refusal :=
  unimplemented (.fminS rd rs1 rs2)

/-- FMAX.S (R227). -/
def execFmaxS (rd rs1 rs2 : FReg) (_s : State) : Host.Outcome State Fault Refusal :=
  unimplemented (.fmaxS rd rs1 rs2)

/-- FCVT.S.D (R242). -/
def execFcvtSD (rd rs1 : FReg) (rm : RoundingMode) (_s : State) : Host.Outcome State Fault Refusal :=
  unimplemented (.fcvtSD rd rs1 rm)

/-- FEQ.S (R228). -/
def execFeqS (rd : XReg) (rs1 rs2 : FReg) (_s : State) : Host.Outcome State Fault Refusal :=
  unimplemented (.feqS rd rs1 rs2)

/-- FLT.S (R229). -/
def execFltS (rd : XReg) (rs1 rs2 : FReg) (_s : State) : Host.Outcome State Fault Refusal :=
  unimplemented (.fltS rd rs1 rs2)

/-- FLE.S (R230). -/
def execFleS (rd : XReg) (rs1 rs2 : FReg) (_s : State) : Host.Outcome State Fault Refusal :=
  unimplemented (.fleS rd rs1 rs2)

/-- FCLASS.S (R231). -/
def execFclassS (rd : XReg) (rs1 : FReg) (_s : State) : Host.Outcome State Fault Refusal :=
  unimplemented (.fclassS rd rs1)

/-- FCVT.W.S (R232). -/
def execFcvtWS (rd : XReg) (rs1 : FReg) (rm : RoundingMode) (_s : State) : Host.Outcome State Fault Refusal :=
  unimplemented (.fcvtWS rd rs1 rm)

/-- FCVT.WU.S (R233). -/
def execFcvtWuS (rd : XReg) (rs1 : FReg) (rm : RoundingMode) (_s : State) : Host.Outcome State Fault Refusal :=
  unimplemented (.fcvtWuS rd rs1 rm)

/-- FCVT.L.S (R234). -/
def execFcvtLS (rd : XReg) (rs1 : FReg) (rm : RoundingMode) (_s : State) : Host.Outcome State Fault Refusal :=
  unimplemented (.fcvtLS rd rs1 rm)

/-- FCVT.LU.S (R235). -/
def execFcvtLuS (rd : XReg) (rs1 : FReg) (rm : RoundingMode) (_s : State) : Host.Outcome State Fault Refusal :=
  unimplemented (.fcvtLuS rd rs1 rm)

/-- FCVT.S.W (R236). -/
def execFcvtSW (rd : FReg) (rs1 : XReg) (rm : RoundingMode) (_s : State) : Host.Outcome State Fault Refusal :=
  unimplemented (.fcvtSW rd rs1 rm)

/-- FCVT.S.WU (R237). -/
def execFcvtSWu (rd : FReg) (rs1 : XReg) (rm : RoundingMode) (_s : State) : Host.Outcome State Fault Refusal :=
  unimplemented (.fcvtSWu rd rs1 rm)

/-- FCVT.S.L (R238). -/
def execFcvtSL (rd : FReg) (rs1 : XReg) (rm : RoundingMode) (_s : State) : Host.Outcome State Fault Refusal :=
  unimplemented (.fcvtSL rd rs1 rm)

/-- FCVT.S.LU (R239). -/
def execFcvtSLu (rd : FReg) (rs1 : XReg) (rm : RoundingMode) (_s : State) : Host.Outcome State Fault Refusal :=
  unimplemented (.fcvtSLu rd rs1 rm)

/-- FMV.X.W (R240). -/
def execFmvXW (rd : XReg) (rs1 : FReg) (_s : State) : Host.Outcome State Fault Refusal :=
  unimplemented (.fmvXW rd rs1)

/-- FMV.W.X (R241). -/
def execFmvWX (rd : FReg) (rs1 : XReg) (_s : State) : Host.Outcome State Fault Refusal :=
  unimplemented (.fmvWX rd rs1)

/-- FLD (R243). -/
def execFld (rd : FReg) (rs1 : XReg) (imm : Word) (_s : State) : Host.Outcome State Fault Refusal :=
  unimplemented (.fld rd rs1 imm)

/-- FSD (R244). -/
def execFsd (rs1 : XReg) (rs2 : FReg) (imm : Word) (_s : State) : Host.Outcome State Fault Refusal :=
  unimplemented (.fsd rs1 rs2 imm)

/-- FMADD.D (R245). -/
def execFmaddD (rd rs1 rs2 rs3 : FReg) (rm : RoundingMode) (_s : State) : Host.Outcome State Fault Refusal :=
  unimplemented (.fmaddD rd rs1 rs2 rs3 rm)

/-- FMSUB.D (R246). -/
def execFmsubD (rd rs1 rs2 rs3 : FReg) (rm : RoundingMode) (_s : State) : Host.Outcome State Fault Refusal :=
  unimplemented (.fmsubD rd rs1 rs2 rs3 rm)

/-- FNMSUB.D (R247). -/
def execFnmsubD (rd rs1 rs2 rs3 : FReg) (rm : RoundingMode) (_s : State) : Host.Outcome State Fault Refusal :=
  unimplemented (.fnmsubD rd rs1 rs2 rs3 rm)

/-- FNMADD.D (R248). -/
def execFnmaddD (rd rs1 rs2 rs3 : FReg) (rm : RoundingMode) (_s : State) : Host.Outcome State Fault Refusal :=
  unimplemented (.fnmaddD rd rs1 rs2 rs3 rm)

/-- FADD.D (R249). -/
def execFaddD (rd rs1 rs2 : FReg) (rm : RoundingMode) (_s : State) : Host.Outcome State Fault Refusal :=
  unimplemented (.faddD rd rs1 rs2 rm)

/-- FSUB.D (R250). -/
def execFsubD (rd rs1 rs2 : FReg) (rm : RoundingMode) (_s : State) : Host.Outcome State Fault Refusal :=
  unimplemented (.fsubD rd rs1 rs2 rm)

/-- FMUL.D (R251). -/
def execFmulD (rd rs1 rs2 : FReg) (rm : RoundingMode) (_s : State) : Host.Outcome State Fault Refusal :=
  unimplemented (.fmulD rd rs1 rs2 rm)

/-- FDIV.D (R252). -/
def execFdivD (rd rs1 rs2 : FReg) (rm : RoundingMode) (_s : State) : Host.Outcome State Fault Refusal :=
  unimplemented (.fdivD rd rs1 rs2 rm)

/-- FSQRT.D (R253). -/
def execFsqrtD (rd rs1 : FReg) (rm : RoundingMode) (_s : State) : Host.Outcome State Fault Refusal :=
  unimplemented (.fsqrtD rd rs1 rm)

/-- FSGNJ.D (R254). -/
def execFsgnjD (rd rs1 rs2 : FReg) (_s : State) : Host.Outcome State Fault Refusal :=
  unimplemented (.fsgnjD rd rs1 rs2)

/-- FSGNJN.D (R255). -/
def execFsgnjnD (rd rs1 rs2 : FReg) (_s : State) : Host.Outcome State Fault Refusal :=
  unimplemented (.fsgnjnD rd rs1 rs2)

/-- FSGNJX.D (R256). -/
def execFsgnjxD (rd rs1 rs2 : FReg) (_s : State) : Host.Outcome State Fault Refusal :=
  unimplemented (.fsgnjxD rd rs1 rs2)

/-- FMIN.D (R257). -/
def execFminD (rd rs1 rs2 : FReg) (_s : State) : Host.Outcome State Fault Refusal :=
  unimplemented (.fminD rd rs1 rs2)

/-- FMAX.D (R258). -/
def execFmaxD (rd rs1 rs2 : FReg) (_s : State) : Host.Outcome State Fault Refusal :=
  unimplemented (.fmaxD rd rs1 rs2)

/-- FCVT.D.S (R259). -/
def execFcvtDS (rd rs1 : FReg) (rm : RoundingMode) (_s : State) : Host.Outcome State Fault Refusal :=
  unimplemented (.fcvtDS rd rs1 rm)

/-- FEQ.D (R260). -/
def execFeqD (rd : XReg) (rs1 rs2 : FReg) (_s : State) : Host.Outcome State Fault Refusal :=
  unimplemented (.feqD rd rs1 rs2)

/-- FLT.D (R261). -/
def execFltD (rd : XReg) (rs1 rs2 : FReg) (_s : State) : Host.Outcome State Fault Refusal :=
  unimplemented (.fltD rd rs1 rs2)

/-- FLE.D (R262). -/
def execFleD (rd : XReg) (rs1 rs2 : FReg) (_s : State) : Host.Outcome State Fault Refusal :=
  unimplemented (.fleD rd rs1 rs2)

/-- FCLASS.D (R263). -/
def execFclassD (rd : XReg) (rs1 : FReg) (_s : State) : Host.Outcome State Fault Refusal :=
  unimplemented (.fclassD rd rs1)

/-- FCVT.W.D (R264). -/
def execFcvtWD (rd : XReg) (rs1 : FReg) (rm : RoundingMode) (_s : State) : Host.Outcome State Fault Refusal :=
  unimplemented (.fcvtWD rd rs1 rm)

/-- FCVT.WU.D (R265). -/
def execFcvtWuD (rd : XReg) (rs1 : FReg) (rm : RoundingMode) (_s : State) : Host.Outcome State Fault Refusal :=
  unimplemented (.fcvtWuD rd rs1 rm)

/-- FCVT.L.D (R266). -/
def execFcvtLD (rd : XReg) (rs1 : FReg) (rm : RoundingMode) (_s : State) : Host.Outcome State Fault Refusal :=
  unimplemented (.fcvtLD rd rs1 rm)

/-- FCVT.LU.D (R267). -/
def execFcvtLuD (rd : XReg) (rs1 : FReg) (rm : RoundingMode) (_s : State) : Host.Outcome State Fault Refusal :=
  unimplemented (.fcvtLuD rd rs1 rm)

/-- FCVT.D.W (R268). -/
def execFcvtDW (rd : FReg) (rs1 : XReg) (rm : RoundingMode) (_s : State) : Host.Outcome State Fault Refusal :=
  unimplemented (.fcvtDW rd rs1 rm)

/-- FCVT.D.WU (R269). -/
def execFcvtDWu (rd : FReg) (rs1 : XReg) (rm : RoundingMode) (_s : State) : Host.Outcome State Fault Refusal :=
  unimplemented (.fcvtDWu rd rs1 rm)

/-- FCVT.D.L (R270). -/
def execFcvtDL (rd : FReg) (rs1 : XReg) (rm : RoundingMode) (_s : State) : Host.Outcome State Fault Refusal :=
  unimplemented (.fcvtDL rd rs1 rm)

/-- FCVT.D.LU (R271). -/
def execFcvtDLu (rd : FReg) (rs1 : XReg) (rm : RoundingMode) (_s : State) : Host.Outcome State Fault Refusal :=
  unimplemented (.fcvtDLu rd rs1 rm)

/-- FMV.X.D (R272). -/
def execFmvXD (rd : XReg) (rs1 : FReg) (_s : State) : Host.Outcome State Fault Refusal :=
  unimplemented (.fmvXD rd rs1)

/-- FMV.D.X (R273). -/
def execFmvDX (rd : FReg) (rs1 : XReg) (_s : State) : Host.Outcome State Fault Refusal :=
  unimplemented (.fmvDX rd rs1)

end Sys2Proof.Machine
end

