-- ==== Sys2Proof/Machine/Integer.lean ====
section
/-! DEFINITION. The integer computational instructions (spec 41_integer_computational.md R123 to R152). -/

namespace Sys2Proof.Machine

/-- LUI (R123). -/
def execLui (rd : XReg) (imm : Word) (s : State) : Host.Outcome State Fault Refusal := retire s rd imm

/-- AUIPC (R124). -/
def execAuipc (rd : XReg) (imm : Word) (s : State) : Host.Outcome State Fault Refusal := retire s rd (pcRelative s imm)

/-- ADDI (R125). -/
def execAddi (rd rs1 : XReg) (imm : Word) (s : State) : Host.Outcome State Fault Refusal :=
  aluImm .add rd rs1 imm s

/-- SLTI (R126). -/
def execSlti (rd rs1 : XReg) (imm : Word) (s : State) : Host.Outcome State Fault Refusal :=
  aluImm .slt rd rs1 imm s

/-- SLTIU (R127). -/
def execSltiu (rd rs1 : XReg) (imm : Word) (s : State) : Host.Outcome State Fault Refusal :=
  aluImm .sltu rd rs1 imm s

/-- XORI (R128). -/
def execXori (rd rs1 : XReg) (imm : Word) (s : State) : Host.Outcome State Fault Refusal :=
  aluImm .xor rd rs1 imm s

/-- ORI (R129). -/
def execOri (rd rs1 : XReg) (imm : Word) (s : State) : Host.Outcome State Fault Refusal :=
  aluImm .or rd rs1 imm s

/-- ANDI (R130). -/
def execAndi (rd rs1 : XReg) (imm : Word) (s : State) : Host.Outcome State Fault Refusal :=
  aluImm .and rd rs1 imm s

/-- ADDIW (R144). -/
def execAddiw (rd rs1 : XReg) (imm : Word) (s : State) : Host.Outcome State Fault Refusal :=
  aluImm .addw rd rs1 imm s

/-- SLLI (R131). -/
def execSlli (rd rs1 : XReg) (shamt : BitVec 6) (s : State) : Host.Outcome State Fault Refusal :=
  aluImm .sll rd rs1 (shamtOperand shamt) s

/-- SRLI (R132). -/
def execSrli (rd rs1 : XReg) (shamt : BitVec 6) (s : State) : Host.Outcome State Fault Refusal :=
  aluImm .srl rd rs1 (shamtOperand shamt) s

/-- SRAI (R133). -/
def execSrai (rd rs1 : XReg) (shamt : BitVec 6) (s : State) : Host.Outcome State Fault Refusal :=
  aluImm .sra rd rs1 (shamtOperand shamt) s

/-- SLLIW (R145). -/
def execSlliw (rd rs1 : XReg) (shamt : BitVec 5) (s : State) : Host.Outcome State Fault Refusal :=
  aluImm .sllw rd rs1 (shamtOperand shamt) s

/-- SRLIW (R146). -/
def execSrliw (rd rs1 : XReg) (shamt : BitVec 5) (s : State) : Host.Outcome State Fault Refusal :=
  aluImm .srlw rd rs1 (shamtOperand shamt) s

/-- SRAIW (R147). -/
def execSraiw (rd rs1 : XReg) (shamt : BitVec 5) (s : State) : Host.Outcome State Fault Refusal :=
  aluImm .sraw rd rs1 (shamtOperand shamt) s

/-- ADD (R134). -/
def execAdd (rd rs1 rs2 : XReg) (s : State) : Host.Outcome State Fault Refusal :=
  aluReg .add rd rs1 rs2 s

/-- SUB (R135). -/
def execSub (rd rs1 rs2 : XReg) (s : State) : Host.Outcome State Fault Refusal :=
  aluReg .sub rd rs1 rs2 s

/-- SLL (R136). -/
def execSll (rd rs1 rs2 : XReg) (s : State) : Host.Outcome State Fault Refusal :=
  aluReg .sll rd rs1 rs2 s

/-- SLT (R137). -/
def execSlt (rd rs1 rs2 : XReg) (s : State) : Host.Outcome State Fault Refusal :=
  aluReg .slt rd rs1 rs2 s

/-- SLTU (R138). -/
def execSltu (rd rs1 rs2 : XReg) (s : State) : Host.Outcome State Fault Refusal :=
  aluReg .sltu rd rs1 rs2 s

/-- XOR (R139). -/
def execXor (rd rs1 rs2 : XReg) (s : State) : Host.Outcome State Fault Refusal :=
  aluReg .xor rd rs1 rs2 s

/-- SRL (R140). -/
def execSrl (rd rs1 rs2 : XReg) (s : State) : Host.Outcome State Fault Refusal :=
  aluReg .srl rd rs1 rs2 s

/-- SRA (R141). -/
def execSra (rd rs1 rs2 : XReg) (s : State) : Host.Outcome State Fault Refusal :=
  aluReg .sra rd rs1 rs2 s

/-- OR (R142). -/
def execOr (rd rs1 rs2 : XReg) (s : State) : Host.Outcome State Fault Refusal :=
  aluReg .or rd rs1 rs2 s

/-- AND (R143). -/
def execAnd (rd rs1 rs2 : XReg) (s : State) : Host.Outcome State Fault Refusal :=
  aluReg .and rd rs1 rs2 s

/-- ADDW (R148). -/
def execAddw (rd rs1 rs2 : XReg) (s : State) : Host.Outcome State Fault Refusal :=
  aluReg .addw rd rs1 rs2 s

/-- SUBW (R149). -/
def execSubw (rd rs1 rs2 : XReg) (s : State) : Host.Outcome State Fault Refusal :=
  aluReg .subw rd rs1 rs2 s

/-- SLLW (R150). -/
def execSllw (rd rs1 rs2 : XReg) (s : State) : Host.Outcome State Fault Refusal :=
  aluReg .sllw rd rs1 rs2 s

/-- SRLW (R151). -/
def execSrlw (rd rs1 rs2 : XReg) (s : State) : Host.Outcome State Fault Refusal :=
  aluReg .srlw rd rs1 rs2 s

/-- SRAW (R152). -/
def execSraw (rd rs1 rs2 : XReg) (s : State) : Host.Outcome State Fault Refusal :=
  aluReg .sraw rd rs1 rs2 s

end Sys2Proof.Machine
end

