-- ==== Sys2Proof/Machine/LoadStore.lean ====
section
/-! DEFINITION. Loads and stores (spec 43_load_store.md R161 to R171). There is no alignment requirement (R51). -/

namespace Sys2Proof.Machine

/-- LB (R161). -/
def execLb (rd rs1 : XReg) (imm : Word) (s : State) : Host.Outcome State Fault Refusal :=
  load 1 (sextBytes 1) rd (effectiveAddress s rs1 imm) s

/-- LH (R162). -/
def execLh (rd rs1 : XReg) (imm : Word) (s : State) : Host.Outcome State Fault Refusal :=
  load 2 (sextBytes 2) rd (effectiveAddress s rs1 imm) s

/-- LW (R163). -/
def execLw (rd rs1 : XReg) (imm : Word) (s : State) : Host.Outcome State Fault Refusal :=
  load 4 (sextBytes 4) rd (effectiveAddress s rs1 imm) s

/-- LD (R164). -/
def execLd (rd rs1 : XReg) (imm : Word) (s : State) : Host.Outcome State Fault Refusal :=
  load 8 (sextBytes 8) rd (effectiveAddress s rs1 imm) s

/-- LBU (R165). -/
def execLbu (rd rs1 : XReg) (imm : Word) (s : State) : Host.Outcome State Fault Refusal :=
  load 1 (zextBytes 1) rd (effectiveAddress s rs1 imm) s

/-- LHU (R166). -/
def execLhu (rd rs1 : XReg) (imm : Word) (s : State) : Host.Outcome State Fault Refusal :=
  load 2 (zextBytes 2) rd (effectiveAddress s rs1 imm) s

/-- LWU (R167). -/
def execLwu (rd rs1 : XReg) (imm : Word) (s : State) : Host.Outcome State Fault Refusal :=
  load 4 (zextBytes 4) rd (effectiveAddress s rs1 imm) s

/-- SB (R168). -/
def execSb (rs1 rs2 : XReg) (imm : Word) (s : State) : Host.Outcome State Fault Refusal :=
  store 1 (effectiveAddress s rs1 imm) (s.readX rs2) s

/-- SH (R169). -/
def execSh (rs1 rs2 : XReg) (imm : Word) (s : State) : Host.Outcome State Fault Refusal :=
  store 2 (effectiveAddress s rs1 imm) (s.readX rs2) s

/-- SW (R170). -/
def execSw (rs1 rs2 : XReg) (imm : Word) (s : State) : Host.Outcome State Fault Refusal :=
  store 4 (effectiveAddress s rs1 imm) (s.readX rs2) s

/-- SD (R171). -/
def execSd (rs1 rs2 : XReg) (imm : Word) (s : State) : Host.Outcome State Fault Refusal :=
  store 8 (effectiveAddress s rs1 imm) (s.readX rs2) s

end Sys2Proof.Machine
end

