-- ==== Sys2Proof/Machine/MulDiv.lean ====
section
/-! DEFINITION. Multiply and divide (spec 45_mul_div.md R177 to R189), under `EXEC_M` (R9): results are computed exactly in
the integers and narrowed at the end. -/

namespace Sys2Proof.Machine

/-- The low bits of the product (R177, R185). -/
def mulLow {n : Nat} (a b : BitVec n) : BitVec n := BitVec.ofNat n (a.toNat * b.toNat)

/-- `((signed(a) · signed(b)) >> 64)[63:0]` (R178). -/
def mulHighSS (a b : Word) : Word := BitVec.ofInt 64 ((a.toInt * b.toInt) / 2 ^ 64)

/-- `((signed(a) · unsigned(b)) >> 64)[63:0]` (R179). -/
def mulHighSU (a b : Word) : Word := BitVec.ofInt 64 ((a.toInt * (b.toNat : Int)) / 2 ^ 64)

/-- `((unsigned(a) · unsigned(b)) >> 64)[63:0]` (R180). -/
def mulHighUU (a b : Word) : Word := BitVec.ofNat 64 (a.toNat * b.toNat / 2 ^ 64)

/-- Signed division (R181, R186): all ones by zero, MIN for MIN / -1, else rounded towards zero. -/
def divSigned {n : Nat} (a b : BitVec n) : BitVec n :=
  if b = 0#n then BitVec.allOnes n
  else if a = BitVec.intMin n ∧ b = BitVec.allOnes n then BitVec.intMin n
  else BitVec.ofInt n (a.toInt.tdiv b.toInt)

/-- Unsigned division (R182, R187): all ones by zero. -/
def divUnsigned {n : Nat} (a b : BitVec n) : BitVec n :=
  if b = 0#n then BitVec.allOnes n else BitVec.ofNat n (a.toNat / b.toNat)

/-- Signed remainder (R183, R188): the dividend by zero, 0 for MIN / -1, else with the dividend's sign. -/
def remSigned {n : Nat} (a b : BitVec n) : BitVec n :=
  if b = 0#n then a
  else if a = BitVec.intMin n ∧ b = BitVec.allOnes n then 0#n
  else BitVec.ofInt n (a.toInt.tmod b.toInt)

/-- Unsigned remainder (R184, R189): the dividend by zero. -/
def remUnsigned {n : Nat} (a b : BitVec n) : BitVec n :=
  if b = 0#n then a else BitVec.ofNat n (a.toNat % b.toNat)

/-- The shape of every M instruction: `Unimplemented` before anything is read where `EXEC_M` says so, else rd gets the result
and the pc advances (R9, R119). -/
def mulDiv (i : Instr) (op : Word → Word → Word) (rd rs1 rs2 : XReg) (s : State) : Host.Outcome State Fault Refusal :=
  match s.execM with
  | .unimplemented => unimplemented i
  | .standard => retire s rd (op (s.readX rs1) (s.readX rs2))

/-- A W form: on the low words, the 32-bit result sign-extended (R185 to R189). -/
def wordForm (op : BitVec 32 → BitVec 32 → BitVec 32) (a b : Word) : Word := sext32 (op (low32 a) (low32 b))

/-- MUL (R177). -/
def execMul (rd rs1 rs2 : XReg) (s : State) : Host.Outcome State Fault Refusal :=
  mulDiv (.mul rd rs1 rs2) mulLow rd rs1 rs2 s

/-- MULH (R178). -/
def execMulh (rd rs1 rs2 : XReg) (s : State) : Host.Outcome State Fault Refusal :=
  mulDiv (.mulh rd rs1 rs2) mulHighSS rd rs1 rs2 s

/-- MULHSU (R179). -/
def execMulhsu (rd rs1 rs2 : XReg) (s : State) : Host.Outcome State Fault Refusal :=
  mulDiv (.mulhsu rd rs1 rs2) mulHighSU rd rs1 rs2 s

/-- MULHU (R180). -/
def execMulhu (rd rs1 rs2 : XReg) (s : State) : Host.Outcome State Fault Refusal :=
  mulDiv (.mulhu rd rs1 rs2) mulHighUU rd rs1 rs2 s

/-- DIV (R181). -/
def execDiv (rd rs1 rs2 : XReg) (s : State) : Host.Outcome State Fault Refusal :=
  mulDiv (.div rd rs1 rs2) divSigned rd rs1 rs2 s

/-- DIVU (R182). -/
def execDivu (rd rs1 rs2 : XReg) (s : State) : Host.Outcome State Fault Refusal :=
  mulDiv (.divu rd rs1 rs2) divUnsigned rd rs1 rs2 s

/-- REM (R183). -/
def execRem (rd rs1 rs2 : XReg) (s : State) : Host.Outcome State Fault Refusal :=
  mulDiv (.rem rd rs1 rs2) remSigned rd rs1 rs2 s

/-- REMU (R184). -/
def execRemu (rd rs1 rs2 : XReg) (s : State) : Host.Outcome State Fault Refusal :=
  mulDiv (.remu rd rs1 rs2) remUnsigned rd rs1 rs2 s

/-- MULW (R185). -/
def execMulw (rd rs1 rs2 : XReg) (s : State) : Host.Outcome State Fault Refusal :=
  mulDiv (.mulw rd rs1 rs2) (wordForm mulLow) rd rs1 rs2 s

/-- DIVW (R186). -/
def execDivw (rd rs1 rs2 : XReg) (s : State) : Host.Outcome State Fault Refusal :=
  mulDiv (.divw rd rs1 rs2) (wordForm divSigned) rd rs1 rs2 s

/-- DIVUW (R187). -/
def execDivuw (rd rs1 rs2 : XReg) (s : State) : Host.Outcome State Fault Refusal :=
  mulDiv (.divuw rd rs1 rs2) (wordForm divUnsigned) rd rs1 rs2 s

/-- REMW (R188). -/
def execRemw (rd rs1 rs2 : XReg) (s : State) : Host.Outcome State Fault Refusal :=
  mulDiv (.remw rd rs1 rs2) (wordForm remSigned) rd rs1 rs2 s

/-- REMUW (R189). -/
def execRemuw (rd rs1 rs2 : XReg) (s : State) : Host.Outcome State Fault Refusal :=
  mulDiv (.remuw rd rs1 rs2) (wordForm remUnsigned) rd rs1 rs2 s

end Sys2Proof.Machine
end

