-- ==== Sys2Proof/Machine/Step.lean ====
section
/-! DEFINITION. The core step (spec 40_execute.md R121) and the placing of a word where it fetches. -/

namespace Sys2Proof.Machine

/-- One fetch-decode-execute cycle: the first error met is the step's result (R121, R278, R281). -/
def step (s : State) : Host.Outcome State Fault Refusal :=
  match fetch s with
  | .error f => .fault (.device f)
  | .ok (w, s') =>
    match decode w with
    | .error d => .fault (.decode d)
    | .ok i => exec i s'

/-- The state with the instruction whose bits are `w`, every bit above `nbits` zero, where the next step fetches. -/
def State.withFetchWord (s : State) (nbits w : Nat) : State := placeWord s (w % 2 ^ nbits)

end Sys2Proof.Machine
end

