-- ==== Sys2Proof/Machine/Assembler.lean ====
section
/-! DEFINITION. Assembler text and pseudo-instructions (spec 10_state.md R23, 30_encoding.md R109 and R110). No rule of the
hardware depends on them. -/

namespace Sys2Proof.Machine

/-! ## Register names -/

/-- `x0` to `x31`, as the spec's examples write an integer register (R109). -/
def xName (r : XReg) : String := "x" ++ toString r.idx.toNat

/-- `f0` to `f31`. -/
def fName (r : FReg) : String := "f" ++ toString r.idx.toNat

/-- The ABI name of an integer register (R23). -/
def xAbiName (r : XReg) : String :=
  ["zero", "ra", "sp", "gp", "tp", "t0", "t1", "t2", "s0", "s1", "a0", "a1", "a2", "a3", "a4", "a5", "a6", "a7",
   "s2", "s3", "s4", "s5", "s6", "s7", "s8", "s9", "s10", "s11", "t3", "t4", "t5", "t6"].getD r.idx.toNat ""

/-- The ABI name of a floating-point register (R23). -/
def fAbiName (r : FReg) : String :=
  ["ft0", "ft1", "ft2", "ft3", "ft4", "ft5", "ft6", "ft7", "fs0", "fs1", "fa0", "fa1", "fa2", "fa3", "fa4", "fa5",
   "fa6", "fa7", "fs2", "fs3", "fs4", "fs5", "fs6", "fs7", "fs8", "fs9", "fs10", "fs11", "ft8", "ft9", "ft10",
   "ft11"].getD r.idx.toNat ""

/-! ## Operand text (R109) -/

/-- A signed decimal immediate or offset. -/
def immText (imm : Word) : String := toString imm.toInt

/-- The 20-bit operand of LUI and AUIPC: the value of `word[31:12]`. -/
def imm20Text (imm : Word) : String := toString (imm.extractLsb' 12 20).toNat

/-- `imm(rs1)`. -/
def baseText (imm : Word) (rs1 : XReg) : String := immText imm ++ "(" ++ xName rs1 ++ ")"

/-- A fence set from the letters `iorw` (R82, R109). -/
def setText (v : BitVec 4) : String :=
  (if v.getLsbD 3 then "i" else "") ++ (if v.getLsbD 2 then "o" else "") ++ (if v.getLsbD 1 then "r" else "") ++
    (if v.getLsbD 0 then "w" else "")

/-- The suffix of an atomic's aq and rl bits. -/
def orderText (aq rl : Bool) : String :=
  match aq, rl with
  | false, false => ""
  | true, false => ".aq"
  | false, true => ".rl"
  | true, true => ".aqrl"

/-- The text of a rounding mode; a reserved code has no spelling and is written as its number. -/
def rmText : RoundingMode → String
  | .rne => "rne"
  | .rtz => "rtz"
  | .rdn => "rdn"
  | .rup => "rup"
  | .rmm => "rmm"
  | .dyn => "dyn"
  | .invalid c => toString c.toNat

/-- Operands joined as assembler text joins them. -/
def operandText : List String → String
  | [] => ""
  | [a] => " " ++ a
  | a :: as => " " ++ a ++ "," ++ operandText as

/-- An instruction as assembler text: a branch or jump target is written as its offset (R109). -/
def asmText : Instr → String
  | .lui rd imm => "lui" ++ operandText [xName rd, imm20Text imm]
  | .auipc rd imm => "auipc" ++ operandText [xName rd, imm20Text imm]
  | .jal rd imm => "jal" ++ operandText [xName rd, immText imm]
  | .jalr rd rs1 imm => "jalr" ++ operandText [xName rd, baseText imm rs1]
  | .beq rs1 rs2 imm => "beq" ++ operandText [xName rs1, xName rs2, immText imm]
  | .bne rs1 rs2 imm => "bne" ++ operandText [xName rs1, xName rs2, immText imm]
  | .blt rs1 rs2 imm => "blt" ++ operandText [xName rs1, xName rs2, immText imm]
  | .bge rs1 rs2 imm => "bge" ++ operandText [xName rs1, xName rs2, immText imm]
  | .bltu rs1 rs2 imm => "bltu" ++ operandText [xName rs1, xName rs2, immText imm]
  | .bgeu rs1 rs2 imm => "bgeu" ++ operandText [xName rs1, xName rs2, immText imm]
  | .lb rd rs1 imm => "lb" ++ operandText [xName rd, baseText imm rs1]
  | .lh rd rs1 imm => "lh" ++ operandText [xName rd, baseText imm rs1]
  | .lw rd rs1 imm => "lw" ++ operandText [xName rd, baseText imm rs1]
  | .ld rd rs1 imm => "ld" ++ operandText [xName rd, baseText imm rs1]
  | .lbu rd rs1 imm => "lbu" ++ operandText [xName rd, baseText imm rs1]
  | .lhu rd rs1 imm => "lhu" ++ operandText [xName rd, baseText imm rs1]
  | .lwu rd rs1 imm => "lwu" ++ operandText [xName rd, baseText imm rs1]
  | .sb rs1 rs2 imm => "sb" ++ operandText [xName rs2, baseText imm rs1]
  | .sh rs1 rs2 imm => "sh" ++ operandText [xName rs2, baseText imm rs1]
  | .sw rs1 rs2 imm => "sw" ++ operandText [xName rs2, baseText imm rs1]
  | .sd rs1 rs2 imm => "sd" ++ operandText [xName rs2, baseText imm rs1]
  | .addi rd rs1 imm => "addi" ++ operandText [xName rd, xName rs1, immText imm]
  | .slti rd rs1 imm => "slti" ++ operandText [xName rd, xName rs1, immText imm]
  | .sltiu rd rs1 imm => "sltiu" ++ operandText [xName rd, xName rs1, immText imm]
  | .xori rd rs1 imm => "xori" ++ operandText [xName rd, xName rs1, immText imm]
  | .ori rd rs1 imm => "ori" ++ operandText [xName rd, xName rs1, immText imm]
  | .andi rd rs1 imm => "andi" ++ operandText [xName rd, xName rs1, immText imm]
  | .slli rd rs1 shamt => "slli" ++ operandText [xName rd, xName rs1, toString shamt.toNat]
  | .srli rd rs1 shamt => "srli" ++ operandText [xName rd, xName rs1, toString shamt.toNat]
  | .srai rd rs1 shamt => "srai" ++ operandText [xName rd, xName rs1, toString shamt.toNat]
  | .add rd rs1 rs2 => "add" ++ operandText [xName rd, xName rs1, xName rs2]
  | .sub rd rs1 rs2 => "sub" ++ operandText [xName rd, xName rs1, xName rs2]
  | .sll rd rs1 rs2 => "sll" ++ operandText [xName rd, xName rs1, xName rs2]
  | .slt rd rs1 rs2 => "slt" ++ operandText [xName rd, xName rs1, xName rs2]
  | .sltu rd rs1 rs2 => "sltu" ++ operandText [xName rd, xName rs1, xName rs2]
  | .xor rd rs1 rs2 => "xor" ++ operandText [xName rd, xName rs1, xName rs2]
  | .srl rd rs1 rs2 => "srl" ++ operandText [xName rd, xName rs1, xName rs2]
  | .sra rd rs1 rs2 => "sra" ++ operandText [xName rd, xName rs1, xName rs2]
  | .or rd rs1 rs2 => "or" ++ operandText [xName rd, xName rs1, xName rs2]
  | .and rd rs1 rs2 => "and" ++ operandText [xName rd, xName rs1, xName rs2]
  | .addiw rd rs1 imm => "addiw" ++ operandText [xName rd, xName rs1, immText imm]
  | .slliw rd rs1 shamt => "slliw" ++ operandText [xName rd, xName rs1, toString shamt.toNat]
  | .srliw rd rs1 shamt => "srliw" ++ operandText [xName rd, xName rs1, toString shamt.toNat]
  | .sraiw rd rs1 shamt => "sraiw" ++ operandText [xName rd, xName rs1, toString shamt.toNat]
  | .addw rd rs1 rs2 => "addw" ++ operandText [xName rd, xName rs1, xName rs2]
  | .subw rd rs1 rs2 => "subw" ++ operandText [xName rd, xName rs1, xName rs2]
  | .sllw rd rs1 rs2 => "sllw" ++ operandText [xName rd, xName rs1, xName rs2]
  | .srlw rd rs1 rs2 => "srlw" ++ operandText [xName rd, xName rs1, xName rs2]
  | .sraw rd rs1 rs2 => "sraw" ++ operandText [xName rd, xName rs1, xName rs2]
  | .pause => "pause"
  | .fence _ pred succ _ _ => "fence" ++ operandText [setText pred, setText succ]
  | .fenceI _ _ _ => "fence.i"
  | .ecall => "ecall"
  | .ebreak => "ebreak"
  | .mul rd rs1 rs2 => "mul" ++ operandText [xName rd, xName rs1, xName rs2]
  | .mulh rd rs1 rs2 => "mulh" ++ operandText [xName rd, xName rs1, xName rs2]
  | .mulhsu rd rs1 rs2 => "mulhsu" ++ operandText [xName rd, xName rs1, xName rs2]
  | .mulhu rd rs1 rs2 => "mulhu" ++ operandText [xName rd, xName rs1, xName rs2]
  | .div rd rs1 rs2 => "div" ++ operandText [xName rd, xName rs1, xName rs2]
  | .divu rd rs1 rs2 => "divu" ++ operandText [xName rd, xName rs1, xName rs2]
  | .rem rd rs1 rs2 => "rem" ++ operandText [xName rd, xName rs1, xName rs2]
  | .remu rd rs1 rs2 => "remu" ++ operandText [xName rd, xName rs1, xName rs2]
  | .mulw rd rs1 rs2 => "mulw" ++ operandText [xName rd, xName rs1, xName rs2]
  | .divw rd rs1 rs2 => "divw" ++ operandText [xName rd, xName rs1, xName rs2]
  | .divuw rd rs1 rs2 => "divuw" ++ operandText [xName rd, xName rs1, xName rs2]
  | .remw rd rs1 rs2 => "remw" ++ operandText [xName rd, xName rs1, xName rs2]
  | .remuw rd rs1 rs2 => "remuw" ++ operandText [xName rd, xName rs1, xName rs2]
  | .lrW rd rs1 aq rl => "lr.w" ++ orderText aq rl ++ operandText [xName rd, "(" ++ xName rs1 ++ ")"]
  | .scW rd rs1 rs2 aq rl => "sc.w" ++ orderText aq rl ++ operandText [xName rd, xName rs2, "(" ++ xName rs1 ++ ")"]
  | .amoswapW rd rs1 rs2 aq rl => "amoswap.w" ++ orderText aq rl ++ operandText [xName rd, xName rs2, "(" ++ xName rs1 ++ ")"]
  | .amoaddW rd rs1 rs2 aq rl => "amoadd.w" ++ orderText aq rl ++ operandText [xName rd, xName rs2, "(" ++ xName rs1 ++ ")"]
  | .amoxorW rd rs1 rs2 aq rl => "amoxor.w" ++ orderText aq rl ++ operandText [xName rd, xName rs2, "(" ++ xName rs1 ++ ")"]
  | .amoandW rd rs1 rs2 aq rl => "amoand.w" ++ orderText aq rl ++ operandText [xName rd, xName rs2, "(" ++ xName rs1 ++ ")"]
  | .amoorW rd rs1 rs2 aq rl => "amoor.w" ++ orderText aq rl ++ operandText [xName rd, xName rs2, "(" ++ xName rs1 ++ ")"]
  | .amominW rd rs1 rs2 aq rl => "amomin.w" ++ orderText aq rl ++ operandText [xName rd, xName rs2, "(" ++ xName rs1 ++ ")"]
  | .amomaxW rd rs1 rs2 aq rl => "amomax.w" ++ orderText aq rl ++ operandText [xName rd, xName rs2, "(" ++ xName rs1 ++ ")"]
  | .amominuW rd rs1 rs2 aq rl => "amominu.w" ++ orderText aq rl ++ operandText [xName rd, xName rs2, "(" ++ xName rs1 ++ ")"]
  | .amomaxuW rd rs1 rs2 aq rl => "amomaxu.w" ++ orderText aq rl ++ operandText [xName rd, xName rs2, "(" ++ xName rs1 ++ ")"]
  | .lrD rd rs1 aq rl => "lr.d" ++ orderText aq rl ++ operandText [xName rd, "(" ++ xName rs1 ++ ")"]
  | .scD rd rs1 rs2 aq rl => "sc.d" ++ orderText aq rl ++ operandText [xName rd, xName rs2, "(" ++ xName rs1 ++ ")"]
  | .amoswapD rd rs1 rs2 aq rl => "amoswap.d" ++ orderText aq rl ++ operandText [xName rd, xName rs2, "(" ++ xName rs1 ++ ")"]
  | .amoaddD rd rs1 rs2 aq rl => "amoadd.d" ++ orderText aq rl ++ operandText [xName rd, xName rs2, "(" ++ xName rs1 ++ ")"]
  | .amoxorD rd rs1 rs2 aq rl => "amoxor.d" ++ orderText aq rl ++ operandText [xName rd, xName rs2, "(" ++ xName rs1 ++ ")"]
  | .amoandD rd rs1 rs2 aq rl => "amoand.d" ++ orderText aq rl ++ operandText [xName rd, xName rs2, "(" ++ xName rs1 ++ ")"]
  | .amoorD rd rs1 rs2 aq rl => "amoor.d" ++ orderText aq rl ++ operandText [xName rd, xName rs2, "(" ++ xName rs1 ++ ")"]
  | .amominD rd rs1 rs2 aq rl => "amomin.d" ++ orderText aq rl ++ operandText [xName rd, xName rs2, "(" ++ xName rs1 ++ ")"]
  | .amomaxD rd rs1 rs2 aq rl => "amomax.d" ++ orderText aq rl ++ operandText [xName rd, xName rs2, "(" ++ xName rs1 ++ ")"]
  | .amominuD rd rs1 rs2 aq rl => "amominu.d" ++ orderText aq rl ++ operandText [xName rd, xName rs2, "(" ++ xName rs1 ++ ")"]
  | .amomaxuD rd rs1 rs2 aq rl => "amomaxu.d" ++ orderText aq rl ++ operandText [xName rd, xName rs2, "(" ++ xName rs1 ++ ")"]
  | .flw rd rs1 imm => "flw" ++ operandText [fName rd, baseText imm rs1]
  | .fsw rs1 rs2 imm => "fsw" ++ operandText [fName rs2, baseText imm rs1]
  | .fmaddS rd rs1 rs2 rs3 rm => "fmadd.s" ++ operandText [fName rd, fName rs1, fName rs2, fName rs3, rmText rm]
  | .fmsubS rd rs1 rs2 rs3 rm => "fmsub.s" ++ operandText [fName rd, fName rs1, fName rs2, fName rs3, rmText rm]
  | .fnmsubS rd rs1 rs2 rs3 rm => "fnmsub.s" ++ operandText [fName rd, fName rs1, fName rs2, fName rs3, rmText rm]
  | .fnmaddS rd rs1 rs2 rs3 rm => "fnmadd.s" ++ operandText [fName rd, fName rs1, fName rs2, fName rs3, rmText rm]
  | .faddS rd rs1 rs2 rm => "fadd.s" ++ operandText [fName rd, fName rs1, fName rs2, rmText rm]
  | .fsubS rd rs1 rs2 rm => "fsub.s" ++ operandText [fName rd, fName rs1, fName rs2, rmText rm]
  | .fmulS rd rs1 rs2 rm => "fmul.s" ++ operandText [fName rd, fName rs1, fName rs2, rmText rm]
  | .fdivS rd rs1 rs2 rm => "fdiv.s" ++ operandText [fName rd, fName rs1, fName rs2, rmText rm]
  | .fsqrtS rd rs1 rm => "fsqrt.s" ++ operandText [fName rd, fName rs1, rmText rm]
  | .fsgnjS rd rs1 rs2 => "fsgnj.s" ++ operandText [fName rd, fName rs1, fName rs2]
  | .fsgnjnS rd rs1 rs2 => "fsgnjn.s" ++ operandText [fName rd, fName rs1, fName rs2]
  | .fsgnjxS rd rs1 rs2 => "fsgnjx.s" ++ operandText [fName rd, fName rs1, fName rs2]
  | .fminS rd rs1 rs2 => "fmin.s" ++ operandText [fName rd, fName rs1, fName rs2]
  | .fmaxS rd rs1 rs2 => "fmax.s" ++ operandText [fName rd, fName rs1, fName rs2]
  | .fcvtSD rd rs1 rm => "fcvt.s.d" ++ operandText [fName rd, fName rs1, rmText rm]
  | .feqS rd rs1 rs2 => "feq.s" ++ operandText [xName rd, fName rs1, fName rs2]
  | .fltS rd rs1 rs2 => "flt.s" ++ operandText [xName rd, fName rs1, fName rs2]
  | .fleS rd rs1 rs2 => "fle.s" ++ operandText [xName rd, fName rs1, fName rs2]
  | .fclassS rd rs1 => "fclass.s" ++ operandText [xName rd, fName rs1]
  | .fcvtWS rd rs1 rm => "fcvt.w.s" ++ operandText [xName rd, fName rs1, rmText rm]
  | .fcvtWuS rd rs1 rm => "fcvt.wu.s" ++ operandText [xName rd, fName rs1, rmText rm]
  | .fcvtLS rd rs1 rm => "fcvt.l.s" ++ operandText [xName rd, fName rs1, rmText rm]
  | .fcvtLuS rd rs1 rm => "fcvt.lu.s" ++ operandText [xName rd, fName rs1, rmText rm]
  | .fcvtSW rd rs1 rm => "fcvt.s.w" ++ operandText [fName rd, xName rs1, rmText rm]
  | .fcvtSWu rd rs1 rm => "fcvt.s.wu" ++ operandText [fName rd, xName rs1, rmText rm]
  | .fcvtSL rd rs1 rm => "fcvt.s.l" ++ operandText [fName rd, xName rs1, rmText rm]
  | .fcvtSLu rd rs1 rm => "fcvt.s.lu" ++ operandText [fName rd, xName rs1, rmText rm]
  | .fmvXW rd rs1 => "fmv.x.w" ++ operandText [xName rd, fName rs1]
  | .fmvWX rd rs1 => "fmv.w.x" ++ operandText [fName rd, xName rs1]
  | .fld rd rs1 imm => "fld" ++ operandText [fName rd, baseText imm rs1]
  | .fsd rs1 rs2 imm => "fsd" ++ operandText [fName rs2, baseText imm rs1]
  | .fmaddD rd rs1 rs2 rs3 rm => "fmadd.d" ++ operandText [fName rd, fName rs1, fName rs2, fName rs3, rmText rm]
  | .fmsubD rd rs1 rs2 rs3 rm => "fmsub.d" ++ operandText [fName rd, fName rs1, fName rs2, fName rs3, rmText rm]
  | .fnmsubD rd rs1 rs2 rs3 rm => "fnmsub.d" ++ operandText [fName rd, fName rs1, fName rs2, fName rs3, rmText rm]
  | .fnmaddD rd rs1 rs2 rs3 rm => "fnmadd.d" ++ operandText [fName rd, fName rs1, fName rs2, fName rs3, rmText rm]
  | .faddD rd rs1 rs2 rm => "fadd.d" ++ operandText [fName rd, fName rs1, fName rs2, rmText rm]
  | .fsubD rd rs1 rs2 rm => "fsub.d" ++ operandText [fName rd, fName rs1, fName rs2, rmText rm]
  | .fmulD rd rs1 rs2 rm => "fmul.d" ++ operandText [fName rd, fName rs1, fName rs2, rmText rm]
  | .fdivD rd rs1 rs2 rm => "fdiv.d" ++ operandText [fName rd, fName rs1, fName rs2, rmText rm]
  | .fsqrtD rd rs1 rm => "fsqrt.d" ++ operandText [fName rd, fName rs1, rmText rm]
  | .fsgnjD rd rs1 rs2 => "fsgnj.d" ++ operandText [fName rd, fName rs1, fName rs2]
  | .fsgnjnD rd rs1 rs2 => "fsgnjn.d" ++ operandText [fName rd, fName rs1, fName rs2]
  | .fsgnjxD rd rs1 rs2 => "fsgnjx.d" ++ operandText [fName rd, fName rs1, fName rs2]
  | .fminD rd rs1 rs2 => "fmin.d" ++ operandText [fName rd, fName rs1, fName rs2]
  | .fmaxD rd rs1 rs2 => "fmax.d" ++ operandText [fName rd, fName rs1, fName rs2]
  | .fcvtDS rd rs1 rm => "fcvt.d.s" ++ operandText [fName rd, fName rs1, rmText rm]
  | .feqD rd rs1 rs2 => "feq.d" ++ operandText [xName rd, fName rs1, fName rs2]
  | .fltD rd rs1 rs2 => "flt.d" ++ operandText [xName rd, fName rs1, fName rs2]
  | .fleD rd rs1 rs2 => "fle.d" ++ operandText [xName rd, fName rs1, fName rs2]
  | .fclassD rd rs1 => "fclass.d" ++ operandText [xName rd, fName rs1]
  | .fcvtWD rd rs1 rm => "fcvt.w.d" ++ operandText [xName rd, fName rs1, rmText rm]
  | .fcvtWuD rd rs1 rm => "fcvt.wu.d" ++ operandText [xName rd, fName rs1, rmText rm]
  | .fcvtLD rd rs1 rm => "fcvt.l.d" ++ operandText [xName rd, fName rs1, rmText rm]
  | .fcvtLuD rd rs1 rm => "fcvt.lu.d" ++ operandText [xName rd, fName rs1, rmText rm]
  | .fcvtDW rd rs1 rm => "fcvt.d.w" ++ operandText [fName rd, xName rs1, rmText rm]
  | .fcvtDWu rd rs1 rm => "fcvt.d.wu" ++ operandText [fName rd, xName rs1, rmText rm]
  | .fcvtDL rd rs1 rm => "fcvt.d.l" ++ operandText [fName rd, xName rs1, rmText rm]
  | .fcvtDLu rd rs1 rm => "fcvt.d.lu" ++ operandText [fName rd, xName rs1, rmText rm]
  | .fmvXD rd rs1 => "fmv.x.d" ++ operandText [xName rd, fName rs1]
  | .fmvDX rd rs1 => "fmv.d.x" ++ operandText [fName rd, xName rs1]

/-! ## Pseudo-instructions (R110) -/

def x0 : XReg := ⟨0#5⟩
def x1 : XReg := ⟨1#5⟩
def x6 : XReg := ⟨6#5⟩

/-- `lo12 = sext_12(v[11:0])`, as an extended I immediate. -/
def lo12 (v : BitVec 32) : Word := (v.extractLsb' 0 12).signExtend 64

/-- `hi20 = (v - lo12) >> 12`, as an extended U immediate. -/
def hi20 (v : BitVec 32) : Word :=
  ((v - (v.extractLsb' 0 12).signExtend 32).extractLsb' 12 20 ++ 0#12).signExtend 64

def pseudoNop : Instr := .addi x0 x0 0#64
def pseudoLi (rd : XReg) (imm : BitVec 12) : Instr := .addi rd x0 (imm.signExtend 64)
def pseudoLi32 (rd : XReg) (v : BitVec 32) : List Instr := [.lui rd (hi20 v), .addiw rd rd (lo12 v)]
def pseudoMv (rd rs : XReg) : Instr := .addi rd rs 0#64
def pseudoNot (rd rs : XReg) : Instr := .xori rd rs (BitVec.allOnes 64)
def pseudoNeg (rd rs : XReg) : Instr := .sub rd x0 rs
def pseudoNegw (rd rs : XReg) : Instr := .subw rd x0 rs
def pseudoSextW (rd rs : XReg) : Instr := .addiw rd rs 0#64
def pseudoSeqz (rd rs : XReg) : Instr := .sltiu rd rs 1#64
def pseudoSnez (rd rs : XReg) : Instr := .sltu rd x0 rs
def pseudoSltz (rd rs : XReg) : Instr := .slt rd rs x0
def pseudoSgtz (rd rs : XReg) : Instr := .slt rd x0 rs
def pseudoBeqz (rs : XReg) (off : Word) : Instr := .beq rs x0 off
def pseudoBnez (rs : XReg) (off : Word) : Instr := .bne rs x0 off
def pseudoBlez (rs : XReg) (off : Word) : Instr := .bge x0 rs off
def pseudoBgez (rs : XReg) (off : Word) : Instr := .bge rs x0 off
def pseudoBltz (rs : XReg) (off : Word) : Instr := .blt rs x0 off
def pseudoBgtz (rs : XReg) (off : Word) : Instr := .blt x0 rs off
def pseudoBgt (rs rt : XReg) (off : Word) : Instr := .blt rt rs off
def pseudoBle (rs rt : XReg) (off : Word) : Instr := .bge rt rs off
def pseudoBgtu (rs rt : XReg) (off : Word) : Instr := .bltu rt rs off
def pseudoBleu (rs rt : XReg) (off : Word) : Instr := .bgeu rt rs off
def pseudoJ (off : Word) : Instr := .jal x0 off
def pseudoJal (off : Word) : Instr := .jal x1 off
def pseudoJr (rs : XReg) : Instr := .jalr x0 rs 0#64
def pseudoJalr (rs : XReg) : Instr := .jalr x1 rs 0#64
def pseudoRet : Instr := .jalr x0 x1 0#64
def pseudoCall (off : BitVec 32) : List Instr := [.auipc x1 (hi20 off), .jalr x1 x1 (lo12 off)]
def pseudoTail (off : BitVec 32) : List Instr := [.auipc x6 (hi20 off), .jalr x0 x6 (lo12 off)]
def pseudoLa (rd : XReg) (off : BitVec 32) : List Instr := [.auipc rd (hi20 off), .addi rd rd (lo12 off)]
def pseudoFence : Instr := .fence 0#4 0b1111#4 0b1111#4 x0 x0
def pseudoFmvS (rd rs : FReg) : Instr := .fsgnjS rd rs rs
def pseudoFmvD (rd rs : FReg) : Instr := .fsgnjD rd rs rs
def pseudoFabsS (rd rs : FReg) : Instr := .fsgnjxS rd rs rs
def pseudoFabsD (rd rs : FReg) : Instr := .fsgnjxD rd rs rs
def pseudoFnegS (rd rs : FReg) : Instr := .fsgnjnS rd rs rs
def pseudoFnegD (rd rs : FReg) : Instr := .fsgnjnD rd rs rs

end Sys2Proof.Machine
end

