-- ==== Sys2Proof/Machine/Construct.lean ====
section
/-! DEFINITION. Construction (spec 70_reset_and_hazards.md R292, R293), and the executor on the whole instruction type with
its reserved variant (R102, R119). -/

namespace Sys2Proof.Machine

/-- The RAM contents the host's image leaves: a byte at an address no RAM holds goes nowhere (log entry 13). -/
def loadImage (bus : Bus) : Memory → List Host.Cell → Memory
  | m, [] => m
  | m, c :: cs => loadImage bus (if ramAt bus c.1 then Memory.write m c.1 c.2 else m) cs

/-- Construction from the platform parameters: a bus map with overlapping ranges is refused (R38), and otherwise both
register files are zero, the pc is `RESET_PC`, and the RAMs hold the image (R32, R33, R34). -/
def construct (p : Platform) : Except Refusal State :=
  if busWf p.busMap then
    .ok { x := Vector.replicate 32 0#64
          f := Vector.replicate 32 0#64
          pc := p.resetPc
          mem := loadImage p.busMap [] p.image
          bus := p.busMap
          execM := p.execM
          execA := p.execA
          devLog := [] }
  else .error .overlappingBusMap

/-- `execute(instr, core)` on the whole instruction type (R115): `Undefined` raises Unimplemented (R102, R119). -/
def executeVariant (v : Variant) (s : State) : Host.Outcome State Fault Refusal :=
  match v with
  | .instr i => exec i s
  | .undefined w d => raise (.unimplemented (.undefined w d))

end Sys2Proof.Machine
end

