-- ==== Sys2Proof/WellFormed.lean ====
section
/-! DEFINITION. Which instructions a word can spell: every immediate is the extension of its encoded field (spec R74 to
R78), an invalid rounding mode holds a reserved code (R81), and no FENCE is the word of PAUSE (R85). -/

namespace Sys2Proof

/-- A 12-bit field sign-extended: the I and S immediates (R74, R75). -/
def wfImm12 (imm : Word) : Bool := imm == (imm.extractLsb' 0 12).signExtend 64

/-- A 12-bit field over one zero bit, sign-extended: the B immediate (R76). -/
def wfImmB (imm : Word) : Bool := imm == (imm.extractLsb' 1 12 ++ 0#1).signExtend 64

/-- A 20-bit field over twelve zero bits, sign-extended: the U immediate (R77). -/
def wfImmU (imm : Word) : Bool := imm == (imm.extractLsb' 12 20 ++ 0#12).signExtend 64

/-- A 20-bit field over one zero bit, sign-extended: the J immediate (R78). -/
def wfImmJ (imm : Word) : Bool := imm == (imm.extractLsb' 1 20 ++ 0#1).signExtend 64

/-- The invalid marker holds one of the two reserved codes (R81). -/
def RoundingMode.wf : RoundingMode → Bool
  | .invalid c => c == 0b101#3 || c == 0b110#3
  | .rne => true
  | .rtz => true
  | .rdn => true
  | .rup => true
  | .rmm => true
  | .dyn => true

/-- The fields are not those of the word 0x0100000F, which is PAUSE (R85). -/
def wfFence (fm pred succ : BitVec 4) (rs1 rd : XReg) : Bool :=
  !(fm == 0#4 && pred == 1#4 && succ == 0#4 && rs1.idx == 0#5 && rd.idx == 0#5)

/-- The instructions some word decodes to. -/
def Instr.wf : Instr → Bool
  | .lui _ imm => wfImmU imm
  | .auipc _ imm => wfImmU imm
  | .jal _ imm => wfImmJ imm
  | .jalr _ _ imm => wfImm12 imm
  | .beq _ _ imm => wfImmB imm
  | .bne _ _ imm => wfImmB imm
  | .blt _ _ imm => wfImmB imm
  | .bge _ _ imm => wfImmB imm
  | .bltu _ _ imm => wfImmB imm
  | .bgeu _ _ imm => wfImmB imm
  | .lb _ _ imm => wfImm12 imm
  | .lh _ _ imm => wfImm12 imm
  | .lw _ _ imm => wfImm12 imm
  | .ld _ _ imm => wfImm12 imm
  | .lbu _ _ imm => wfImm12 imm
  | .lhu _ _ imm => wfImm12 imm
  | .lwu _ _ imm => wfImm12 imm
  | .sb _ _ imm => wfImm12 imm
  | .sh _ _ imm => wfImm12 imm
  | .sw _ _ imm => wfImm12 imm
  | .sd _ _ imm => wfImm12 imm
  | .addi _ _ imm => wfImm12 imm
  | .slti _ _ imm => wfImm12 imm
  | .sltiu _ _ imm => wfImm12 imm
  | .xori _ _ imm => wfImm12 imm
  | .ori _ _ imm => wfImm12 imm
  | .andi _ _ imm => wfImm12 imm
  | .slli _ _ _ => true
  | .srli _ _ _ => true
  | .srai _ _ _ => true
  | .add _ _ _ => true
  | .sub _ _ _ => true
  | .sll _ _ _ => true
  | .slt _ _ _ => true
  | .sltu _ _ _ => true
  | .xor _ _ _ => true
  | .srl _ _ _ => true
  | .sra _ _ _ => true
  | .or _ _ _ => true
  | .and _ _ _ => true
  | .addiw _ _ imm => wfImm12 imm
  | .slliw _ _ _ => true
  | .srliw _ _ _ => true
  | .sraiw _ _ _ => true
  | .addw _ _ _ => true
  | .subw _ _ _ => true
  | .sllw _ _ _ => true
  | .srlw _ _ _ => true
  | .sraw _ _ _ => true
  | .pause => true
  | .fence fm pred succ rs1 rd => wfFence fm pred succ rs1 rd
  | .fenceI _ _ imm => wfImm12 imm
  | .ecall => true
  | .ebreak => true
  | .mul _ _ _ => true
  | .mulh _ _ _ => true
  | .mulhsu _ _ _ => true
  | .mulhu _ _ _ => true
  | .div _ _ _ => true
  | .divu _ _ _ => true
  | .rem _ _ _ => true
  | .remu _ _ _ => true
  | .mulw _ _ _ => true
  | .divw _ _ _ => true
  | .divuw _ _ _ => true
  | .remw _ _ _ => true
  | .remuw _ _ _ => true
  | .lrW _ _ _ _ => true
  | .scW _ _ _ _ _ => true
  | .amoswapW _ _ _ _ _ => true
  | .amoaddW _ _ _ _ _ => true
  | .amoxorW _ _ _ _ _ => true
  | .amoandW _ _ _ _ _ => true
  | .amoorW _ _ _ _ _ => true
  | .amominW _ _ _ _ _ => true
  | .amomaxW _ _ _ _ _ => true
  | .amominuW _ _ _ _ _ => true
  | .amomaxuW _ _ _ _ _ => true
  | .lrD _ _ _ _ => true
  | .scD _ _ _ _ _ => true
  | .amoswapD _ _ _ _ _ => true
  | .amoaddD _ _ _ _ _ => true
  | .amoxorD _ _ _ _ _ => true
  | .amoandD _ _ _ _ _ => true
  | .amoorD _ _ _ _ _ => true
  | .amominD _ _ _ _ _ => true
  | .amomaxD _ _ _ _ _ => true
  | .amominuD _ _ _ _ _ => true
  | .amomaxuD _ _ _ _ _ => true
  | .flw _ _ imm => wfImm12 imm
  | .fsw _ _ imm => wfImm12 imm
  | .fmaddS _ _ _ _ rm => rm.wf
  | .fmsubS _ _ _ _ rm => rm.wf
  | .fnmsubS _ _ _ _ rm => rm.wf
  | .fnmaddS _ _ _ _ rm => rm.wf
  | .faddS _ _ _ rm => rm.wf
  | .fsubS _ _ _ rm => rm.wf
  | .fmulS _ _ _ rm => rm.wf
  | .fdivS _ _ _ rm => rm.wf
  | .fsqrtS _ _ rm => rm.wf
  | .fsgnjS _ _ _ => true
  | .fsgnjnS _ _ _ => true
  | .fsgnjxS _ _ _ => true
  | .fminS _ _ _ => true
  | .fmaxS _ _ _ => true
  | .fcvtSD _ _ rm => rm.wf
  | .feqS _ _ _ => true
  | .fltS _ _ _ => true
  | .fleS _ _ _ => true
  | .fclassS _ _ => true
  | .fcvtWS _ _ rm => rm.wf
  | .fcvtWuS _ _ rm => rm.wf
  | .fcvtLS _ _ rm => rm.wf
  | .fcvtLuS _ _ rm => rm.wf
  | .fcvtSW _ _ rm => rm.wf
  | .fcvtSWu _ _ rm => rm.wf
  | .fcvtSL _ _ rm => rm.wf
  | .fcvtSLu _ _ rm => rm.wf
  | .fmvXW _ _ => true
  | .fmvWX _ _ => true
  | .fld _ _ imm => wfImm12 imm
  | .fsd _ _ imm => wfImm12 imm
  | .fmaddD _ _ _ _ rm => rm.wf
  | .fmsubD _ _ _ _ rm => rm.wf
  | .fnmsubD _ _ _ _ rm => rm.wf
  | .fnmaddD _ _ _ _ rm => rm.wf
  | .faddD _ _ _ rm => rm.wf
  | .fsubD _ _ _ rm => rm.wf
  | .fmulD _ _ _ rm => rm.wf
  | .fdivD _ _ _ rm => rm.wf
  | .fsqrtD _ _ rm => rm.wf
  | .fsgnjD _ _ _ => true
  | .fsgnjnD _ _ _ => true
  | .fsgnjxD _ _ _ => true
  | .fminD _ _ _ => true
  | .fmaxD _ _ _ => true
  | .fcvtDS _ _ rm => rm.wf
  | .feqD _ _ _ => true
  | .fltD _ _ _ => true
  | .fleD _ _ _ => true
  | .fclassD _ _ => true
  | .fcvtWD _ _ rm => rm.wf
  | .fcvtWuD _ _ rm => rm.wf
  | .fcvtLD _ _ rm => rm.wf
  | .fcvtLuD _ _ rm => rm.wf
  | .fcvtDW _ _ rm => rm.wf
  | .fcvtDWu _ _ rm => rm.wf
  | .fcvtDL _ _ rm => rm.wf
  | .fcvtDLu _ _ rm => rm.wf
  | .fmvXD _ _ => true
  | .fmvDX _ _ => true

end Sys2Proof
end

