-- ==== Sys2Proof/Safety.lean ====
section
/-! DEFINITION. The terms claims are made in: the instruction classes of spec R291, the rows of opcode_table.json as
checkable facts of a word, the invariant of a constructed machine, and what an instruction leaves unchanged. -/

namespace Sys2Proof

/-- The classes of R291. -/
inductive InstrClass where
  | integer
  | control
  | load
  | store
  | fenceSystem
  | mulDiv
  | atomic
  | float
  deriving DecidableEq, Repr

/-- The class of an instruction, by the file of the spec that holds its rule. -/
def Instr.kind : Instr → InstrClass
  | .lui _ _ => .integer
  | .auipc _ _ => .integer
  | .jal _ _ => .control
  | .jalr _ _ _ => .control
  | .beq _ _ _ => .control
  | .bne _ _ _ => .control
  | .blt _ _ _ => .control
  | .bge _ _ _ => .control
  | .bltu _ _ _ => .control
  | .bgeu _ _ _ => .control
  | .lb _ _ _ => .load
  | .lh _ _ _ => .load
  | .lw _ _ _ => .load
  | .ld _ _ _ => .load
  | .lbu _ _ _ => .load
  | .lhu _ _ _ => .load
  | .lwu _ _ _ => .load
  | .sb _ _ _ => .store
  | .sh _ _ _ => .store
  | .sw _ _ _ => .store
  | .sd _ _ _ => .store
  | .addi _ _ _ => .integer
  | .slti _ _ _ => .integer
  | .sltiu _ _ _ => .integer
  | .xori _ _ _ => .integer
  | .ori _ _ _ => .integer
  | .andi _ _ _ => .integer
  | .slli _ _ _ => .integer
  | .srli _ _ _ => .integer
  | .srai _ _ _ => .integer
  | .add _ _ _ => .integer
  | .sub _ _ _ => .integer
  | .sll _ _ _ => .integer
  | .slt _ _ _ => .integer
  | .sltu _ _ _ => .integer
  | .xor _ _ _ => .integer
  | .srl _ _ _ => .integer
  | .sra _ _ _ => .integer
  | .or _ _ _ => .integer
  | .and _ _ _ => .integer
  | .addiw _ _ _ => .integer
  | .slliw _ _ _ => .integer
  | .srliw _ _ _ => .integer
  | .sraiw _ _ _ => .integer
  | .addw _ _ _ => .integer
  | .subw _ _ _ => .integer
  | .sllw _ _ _ => .integer
  | .srlw _ _ _ => .integer
  | .sraw _ _ _ => .integer
  | .pause => .fenceSystem
  | .fence _ _ _ _ _ => .fenceSystem
  | .fenceI _ _ _ => .fenceSystem
  | .ecall => .fenceSystem
  | .ebreak => .fenceSystem
  | .mul _ _ _ => .mulDiv
  | .mulh _ _ _ => .mulDiv
  | .mulhsu _ _ _ => .mulDiv
  | .mulhu _ _ _ => .mulDiv
  | .div _ _ _ => .mulDiv
  | .divu _ _ _ => .mulDiv
  | .rem _ _ _ => .mulDiv
  | .remu _ _ _ => .mulDiv
  | .mulw _ _ _ => .mulDiv
  | .divw _ _ _ => .mulDiv
  | .divuw _ _ _ => .mulDiv
  | .remw _ _ _ => .mulDiv
  | .remuw _ _ _ => .mulDiv
  | .lrW _ _ _ _ => .atomic
  | .scW _ _ _ _ _ => .atomic
  | .amoswapW _ _ _ _ _ => .atomic
  | .amoaddW _ _ _ _ _ => .atomic
  | .amoxorW _ _ _ _ _ => .atomic
  | .amoandW _ _ _ _ _ => .atomic
  | .amoorW _ _ _ _ _ => .atomic
  | .amominW _ _ _ _ _ => .atomic
  | .amomaxW _ _ _ _ _ => .atomic
  | .amominuW _ _ _ _ _ => .atomic
  | .amomaxuW _ _ _ _ _ => .atomic
  | .lrD _ _ _ _ => .atomic
  | .scD _ _ _ _ _ => .atomic
  | .amoswapD _ _ _ _ _ => .atomic
  | .amoaddD _ _ _ _ _ => .atomic
  | .amoxorD _ _ _ _ _ => .atomic
  | .amoandD _ _ _ _ _ => .atomic
  | .amoorD _ _ _ _ _ => .atomic
  | .amominD _ _ _ _ _ => .atomic
  | .amomaxD _ _ _ _ _ => .atomic
  | .amominuD _ _ _ _ _ => .atomic
  | .amomaxuD _ _ _ _ _ => .atomic
  | .flw _ _ _ => .float
  | .fsw _ _ _ => .float
  | .fmaddS _ _ _ _ _ => .float
  | .fmsubS _ _ _ _ _ => .float
  | .fnmsubS _ _ _ _ _ => .float
  | .fnmaddS _ _ _ _ _ => .float
  | .faddS _ _ _ _ => .float
  | .fsubS _ _ _ _ => .float
  | .fmulS _ _ _ _ => .float
  | .fdivS _ _ _ _ => .float
  | .fsqrtS _ _ _ => .float
  | .fsgnjS _ _ _ => .float
  | .fsgnjnS _ _ _ => .float
  | .fsgnjxS _ _ _ => .float
  | .fminS _ _ _ => .float
  | .fmaxS _ _ _ => .float
  | .fcvtSD _ _ _ => .float
  | .feqS _ _ _ => .float
  | .fltS _ _ _ => .float
  | .fleS _ _ _ => .float
  | .fclassS _ _ => .float
  | .fcvtWS _ _ _ => .float
  | .fcvtWuS _ _ _ => .float
  | .fcvtLS _ _ _ => .float
  | .fcvtLuS _ _ _ => .float
  | .fcvtSW _ _ _ => .float
  | .fcvtSWu _ _ _ => .float
  | .fcvtSL _ _ _ => .float
  | .fcvtSLu _ _ _ => .float
  | .fmvXW _ _ => .float
  | .fmvWX _ _ => .float
  | .fld _ _ _ => .float
  | .fsd _ _ _ => .float
  | .fmaddD _ _ _ _ _ => .float
  | .fmsubD _ _ _ _ _ => .float
  | .fnmsubD _ _ _ _ _ => .float
  | .fnmaddD _ _ _ _ _ => .float
  | .faddD _ _ _ _ => .float
  | .fsubD _ _ _ _ => .float
  | .fmulD _ _ _ _ => .float
  | .fdivD _ _ _ _ => .float
  | .fsqrtD _ _ _ => .float
  | .fsgnjD _ _ _ => .float
  | .fsgnjnD _ _ _ => .float
  | .fsgnjxD _ _ _ => .float
  | .fminD _ _ _ => .float
  | .fmaxD _ _ _ => .float
  | .fcvtDS _ _ _ => .float
  | .feqD _ _ _ => .float
  | .fltD _ _ _ => .float
  | .fleD _ _ _ => .float
  | .fclassD _ _ => .float
  | .fcvtWD _ _ _ => .float
  | .fcvtWuD _ _ _ => .float
  | .fcvtLD _ _ _ => .float
  | .fcvtLuD _ _ _ => .float
  | .fcvtDW _ _ _ => .float
  | .fcvtDWu _ _ _ => .float
  | .fcvtDL _ _ _ => .float
  | .fcvtDLu _ _ _ => .float
  | .fmvXD _ _ => .float
  | .fmvDX _ _ => .float

/-- A field of a word with the value a row of opcode_table.json fixes it to: bits `lo` to `lo + len - 1` are `value`. -/
structure FixedField where
  lo : Nat
  len : Nat
  value : Nat
  deriving DecidableEq, Repr

/-- A word has the value in the field. -/
abbrev FixedField.holdsOf (f : FixedField) (w : InstrWord) : Prop := (w.extractLsb' f.lo f.len).toNat = f.value

/-- The fixed fields of the instruction's row of opcode_table.json. -/
def Instr.fixedFields : Instr → List FixedField
  | .lui _ _ => [⟨0, 7, 0x37⟩]
  | .auipc _ _ => [⟨0, 7, 0x17⟩]
  | .jal _ _ => [⟨0, 7, 0x6F⟩]
  | .jalr _ _ _ => [⟨0, 7, 0x67⟩, ⟨12, 3, 0x0⟩]
  | .beq _ _ _ => [⟨0, 7, 0x63⟩, ⟨12, 3, 0x0⟩]
  | .bne _ _ _ => [⟨0, 7, 0x63⟩, ⟨12, 3, 0x1⟩]
  | .blt _ _ _ => [⟨0, 7, 0x63⟩, ⟨12, 3, 0x4⟩]
  | .bge _ _ _ => [⟨0, 7, 0x63⟩, ⟨12, 3, 0x5⟩]
  | .bltu _ _ _ => [⟨0, 7, 0x63⟩, ⟨12, 3, 0x6⟩]
  | .bgeu _ _ _ => [⟨0, 7, 0x63⟩, ⟨12, 3, 0x7⟩]
  | .lb _ _ _ => [⟨0, 7, 0x3⟩, ⟨12, 3, 0x0⟩]
  | .lh _ _ _ => [⟨0, 7, 0x3⟩, ⟨12, 3, 0x1⟩]
  | .lw _ _ _ => [⟨0, 7, 0x3⟩, ⟨12, 3, 0x2⟩]
  | .ld _ _ _ => [⟨0, 7, 0x3⟩, ⟨12, 3, 0x3⟩]
  | .lbu _ _ _ => [⟨0, 7, 0x3⟩, ⟨12, 3, 0x4⟩]
  | .lhu _ _ _ => [⟨0, 7, 0x3⟩, ⟨12, 3, 0x5⟩]
  | .lwu _ _ _ => [⟨0, 7, 0x3⟩, ⟨12, 3, 0x6⟩]
  | .sb _ _ _ => [⟨0, 7, 0x23⟩, ⟨12, 3, 0x0⟩]
  | .sh _ _ _ => [⟨0, 7, 0x23⟩, ⟨12, 3, 0x1⟩]
  | .sw _ _ _ => [⟨0, 7, 0x23⟩, ⟨12, 3, 0x2⟩]
  | .sd _ _ _ => [⟨0, 7, 0x23⟩, ⟨12, 3, 0x3⟩]
  | .addi _ _ _ => [⟨0, 7, 0x13⟩, ⟨12, 3, 0x0⟩]
  | .slti _ _ _ => [⟨0, 7, 0x13⟩, ⟨12, 3, 0x2⟩]
  | .sltiu _ _ _ => [⟨0, 7, 0x13⟩, ⟨12, 3, 0x3⟩]
  | .xori _ _ _ => [⟨0, 7, 0x13⟩, ⟨12, 3, 0x4⟩]
  | .ori _ _ _ => [⟨0, 7, 0x13⟩, ⟨12, 3, 0x6⟩]
  | .andi _ _ _ => [⟨0, 7, 0x13⟩, ⟨12, 3, 0x7⟩]
  | .slli _ _ _ => [⟨0, 7, 0x13⟩, ⟨12, 3, 0x1⟩, ⟨26, 6, 0x0⟩]
  | .srli _ _ _ => [⟨0, 7, 0x13⟩, ⟨12, 3, 0x5⟩, ⟨26, 6, 0x0⟩]
  | .srai _ _ _ => [⟨0, 7, 0x13⟩, ⟨12, 3, 0x5⟩, ⟨26, 6, 0x10⟩]
  | .add _ _ _ => [⟨0, 7, 0x33⟩, ⟨12, 3, 0x0⟩, ⟨25, 7, 0x0⟩]
  | .sub _ _ _ => [⟨0, 7, 0x33⟩, ⟨12, 3, 0x0⟩, ⟨25, 7, 0x20⟩]
  | .sll _ _ _ => [⟨0, 7, 0x33⟩, ⟨12, 3, 0x1⟩, ⟨25, 7, 0x0⟩]
  | .slt _ _ _ => [⟨0, 7, 0x33⟩, ⟨12, 3, 0x2⟩, ⟨25, 7, 0x0⟩]
  | .sltu _ _ _ => [⟨0, 7, 0x33⟩, ⟨12, 3, 0x3⟩, ⟨25, 7, 0x0⟩]
  | .xor _ _ _ => [⟨0, 7, 0x33⟩, ⟨12, 3, 0x4⟩, ⟨25, 7, 0x0⟩]
  | .srl _ _ _ => [⟨0, 7, 0x33⟩, ⟨12, 3, 0x5⟩, ⟨25, 7, 0x0⟩]
  | .sra _ _ _ => [⟨0, 7, 0x33⟩, ⟨12, 3, 0x5⟩, ⟨25, 7, 0x20⟩]
  | .or _ _ _ => [⟨0, 7, 0x33⟩, ⟨12, 3, 0x6⟩, ⟨25, 7, 0x0⟩]
  | .and _ _ _ => [⟨0, 7, 0x33⟩, ⟨12, 3, 0x7⟩, ⟨25, 7, 0x0⟩]
  | .addiw _ _ _ => [⟨0, 7, 0x1B⟩, ⟨12, 3, 0x0⟩]
  | .slliw _ _ _ => [⟨0, 7, 0x1B⟩, ⟨12, 3, 0x1⟩, ⟨25, 7, 0x0⟩]
  | .srliw _ _ _ => [⟨0, 7, 0x1B⟩, ⟨12, 3, 0x5⟩, ⟨25, 7, 0x0⟩]
  | .sraiw _ _ _ => [⟨0, 7, 0x1B⟩, ⟨12, 3, 0x5⟩, ⟨25, 7, 0x20⟩]
  | .addw _ _ _ => [⟨0, 7, 0x3B⟩, ⟨12, 3, 0x0⟩, ⟨25, 7, 0x0⟩]
  | .subw _ _ _ => [⟨0, 7, 0x3B⟩, ⟨12, 3, 0x0⟩, ⟨25, 7, 0x20⟩]
  | .sllw _ _ _ => [⟨0, 7, 0x3B⟩, ⟨12, 3, 0x1⟩, ⟨25, 7, 0x0⟩]
  | .srlw _ _ _ => [⟨0, 7, 0x3B⟩, ⟨12, 3, 0x5⟩, ⟨25, 7, 0x0⟩]
  | .sraw _ _ _ => [⟨0, 7, 0x3B⟩, ⟨12, 3, 0x5⟩, ⟨25, 7, 0x20⟩]
  | .pause => [⟨0, 32, 0x100000F⟩]
  | .fence _ _ _ _ _ => [⟨0, 7, 0xF⟩, ⟨12, 3, 0x0⟩]
  | .fenceI _ _ _ => [⟨0, 7, 0xF⟩, ⟨12, 3, 0x1⟩]
  | .ecall => [⟨0, 32, 0x73⟩]
  | .ebreak => [⟨0, 32, 0x100073⟩]
  | .mul _ _ _ => [⟨0, 7, 0x33⟩, ⟨12, 3, 0x0⟩, ⟨25, 7, 0x1⟩]
  | .mulh _ _ _ => [⟨0, 7, 0x33⟩, ⟨12, 3, 0x1⟩, ⟨25, 7, 0x1⟩]
  | .mulhsu _ _ _ => [⟨0, 7, 0x33⟩, ⟨12, 3, 0x2⟩, ⟨25, 7, 0x1⟩]
  | .mulhu _ _ _ => [⟨0, 7, 0x33⟩, ⟨12, 3, 0x3⟩, ⟨25, 7, 0x1⟩]
  | .div _ _ _ => [⟨0, 7, 0x33⟩, ⟨12, 3, 0x4⟩, ⟨25, 7, 0x1⟩]
  | .divu _ _ _ => [⟨0, 7, 0x33⟩, ⟨12, 3, 0x5⟩, ⟨25, 7, 0x1⟩]
  | .rem _ _ _ => [⟨0, 7, 0x33⟩, ⟨12, 3, 0x6⟩, ⟨25, 7, 0x1⟩]
  | .remu _ _ _ => [⟨0, 7, 0x33⟩, ⟨12, 3, 0x7⟩, ⟨25, 7, 0x1⟩]
  | .mulw _ _ _ => [⟨0, 7, 0x3B⟩, ⟨12, 3, 0x0⟩, ⟨25, 7, 0x1⟩]
  | .divw _ _ _ => [⟨0, 7, 0x3B⟩, ⟨12, 3, 0x4⟩, ⟨25, 7, 0x1⟩]
  | .divuw _ _ _ => [⟨0, 7, 0x3B⟩, ⟨12, 3, 0x5⟩, ⟨25, 7, 0x1⟩]
  | .remw _ _ _ => [⟨0, 7, 0x3B⟩, ⟨12, 3, 0x6⟩, ⟨25, 7, 0x1⟩]
  | .remuw _ _ _ => [⟨0, 7, 0x3B⟩, ⟨12, 3, 0x7⟩, ⟨25, 7, 0x1⟩]
  | .lrW _ _ _ _ => [⟨0, 7, 0x2F⟩, ⟨12, 3, 0x2⟩, ⟨20, 5, 0x0⟩, ⟨27, 5, 0x2⟩]
  | .scW _ _ _ _ _ => [⟨0, 7, 0x2F⟩, ⟨12, 3, 0x2⟩, ⟨27, 5, 0x3⟩]
  | .amoswapW _ _ _ _ _ => [⟨0, 7, 0x2F⟩, ⟨12, 3, 0x2⟩, ⟨27, 5, 0x1⟩]
  | .amoaddW _ _ _ _ _ => [⟨0, 7, 0x2F⟩, ⟨12, 3, 0x2⟩, ⟨27, 5, 0x0⟩]
  | .amoxorW _ _ _ _ _ => [⟨0, 7, 0x2F⟩, ⟨12, 3, 0x2⟩, ⟨27, 5, 0x4⟩]
  | .amoandW _ _ _ _ _ => [⟨0, 7, 0x2F⟩, ⟨12, 3, 0x2⟩, ⟨27, 5, 0xC⟩]
  | .amoorW _ _ _ _ _ => [⟨0, 7, 0x2F⟩, ⟨12, 3, 0x2⟩, ⟨27, 5, 0x8⟩]
  | .amominW _ _ _ _ _ => [⟨0, 7, 0x2F⟩, ⟨12, 3, 0x2⟩, ⟨27, 5, 0x10⟩]
  | .amomaxW _ _ _ _ _ => [⟨0, 7, 0x2F⟩, ⟨12, 3, 0x2⟩, ⟨27, 5, 0x14⟩]
  | .amominuW _ _ _ _ _ => [⟨0, 7, 0x2F⟩, ⟨12, 3, 0x2⟩, ⟨27, 5, 0x18⟩]
  | .amomaxuW _ _ _ _ _ => [⟨0, 7, 0x2F⟩, ⟨12, 3, 0x2⟩, ⟨27, 5, 0x1C⟩]
  | .lrD _ _ _ _ => [⟨0, 7, 0x2F⟩, ⟨12, 3, 0x3⟩, ⟨20, 5, 0x0⟩, ⟨27, 5, 0x2⟩]
  | .scD _ _ _ _ _ => [⟨0, 7, 0x2F⟩, ⟨12, 3, 0x3⟩, ⟨27, 5, 0x3⟩]
  | .amoswapD _ _ _ _ _ => [⟨0, 7, 0x2F⟩, ⟨12, 3, 0x3⟩, ⟨27, 5, 0x1⟩]
  | .amoaddD _ _ _ _ _ => [⟨0, 7, 0x2F⟩, ⟨12, 3, 0x3⟩, ⟨27, 5, 0x0⟩]
  | .amoxorD _ _ _ _ _ => [⟨0, 7, 0x2F⟩, ⟨12, 3, 0x3⟩, ⟨27, 5, 0x4⟩]
  | .amoandD _ _ _ _ _ => [⟨0, 7, 0x2F⟩, ⟨12, 3, 0x3⟩, ⟨27, 5, 0xC⟩]
  | .amoorD _ _ _ _ _ => [⟨0, 7, 0x2F⟩, ⟨12, 3, 0x3⟩, ⟨27, 5, 0x8⟩]
  | .amominD _ _ _ _ _ => [⟨0, 7, 0x2F⟩, ⟨12, 3, 0x3⟩, ⟨27, 5, 0x10⟩]
  | .amomaxD _ _ _ _ _ => [⟨0, 7, 0x2F⟩, ⟨12, 3, 0x3⟩, ⟨27, 5, 0x14⟩]
  | .amominuD _ _ _ _ _ => [⟨0, 7, 0x2F⟩, ⟨12, 3, 0x3⟩, ⟨27, 5, 0x18⟩]
  | .amomaxuD _ _ _ _ _ => [⟨0, 7, 0x2F⟩, ⟨12, 3, 0x3⟩, ⟨27, 5, 0x1C⟩]
  | .flw _ _ _ => [⟨0, 7, 0x7⟩, ⟨12, 3, 0x2⟩]
  | .fsw _ _ _ => [⟨0, 7, 0x27⟩, ⟨12, 3, 0x2⟩]
  | .fmaddS _ _ _ _ _ => [⟨0, 7, 0x43⟩, ⟨25, 2, 0x0⟩]
  | .fmsubS _ _ _ _ _ => [⟨0, 7, 0x47⟩, ⟨25, 2, 0x0⟩]
  | .fnmsubS _ _ _ _ _ => [⟨0, 7, 0x4B⟩, ⟨25, 2, 0x0⟩]
  | .fnmaddS _ _ _ _ _ => [⟨0, 7, 0x4F⟩, ⟨25, 2, 0x0⟩]
  | .faddS _ _ _ _ => [⟨0, 7, 0x53⟩, ⟨25, 7, 0x0⟩]
  | .fsubS _ _ _ _ => [⟨0, 7, 0x53⟩, ⟨25, 7, 0x4⟩]
  | .fmulS _ _ _ _ => [⟨0, 7, 0x53⟩, ⟨25, 7, 0x8⟩]
  | .fdivS _ _ _ _ => [⟨0, 7, 0x53⟩, ⟨25, 7, 0xC⟩]
  | .fsqrtS _ _ _ => [⟨0, 7, 0x53⟩, ⟨20, 12, 0x580⟩]
  | .fsgnjS _ _ _ => [⟨0, 7, 0x53⟩, ⟨12, 3, 0x0⟩, ⟨25, 7, 0x10⟩]
  | .fsgnjnS _ _ _ => [⟨0, 7, 0x53⟩, ⟨12, 3, 0x1⟩, ⟨25, 7, 0x10⟩]
  | .fsgnjxS _ _ _ => [⟨0, 7, 0x53⟩, ⟨12, 3, 0x2⟩, ⟨25, 7, 0x10⟩]
  | .fminS _ _ _ => [⟨0, 7, 0x53⟩, ⟨12, 3, 0x0⟩, ⟨25, 7, 0x14⟩]
  | .fmaxS _ _ _ => [⟨0, 7, 0x53⟩, ⟨12, 3, 0x1⟩, ⟨25, 7, 0x14⟩]
  | .fcvtSD _ _ _ => [⟨0, 7, 0x53⟩, ⟨20, 12, 0x401⟩]
  | .feqS _ _ _ => [⟨0, 7, 0x53⟩, ⟨12, 3, 0x2⟩, ⟨25, 7, 0x50⟩]
  | .fltS _ _ _ => [⟨0, 7, 0x53⟩, ⟨12, 3, 0x1⟩, ⟨25, 7, 0x50⟩]
  | .fleS _ _ _ => [⟨0, 7, 0x53⟩, ⟨12, 3, 0x0⟩, ⟨25, 7, 0x50⟩]
  | .fclassS _ _ => [⟨0, 7, 0x53⟩, ⟨12, 3, 0x1⟩, ⟨20, 12, 0xE00⟩]
  | .fcvtWS _ _ _ => [⟨0, 7, 0x53⟩, ⟨20, 12, 0xC00⟩]
  | .fcvtWuS _ _ _ => [⟨0, 7, 0x53⟩, ⟨20, 12, 0xC01⟩]
  | .fcvtLS _ _ _ => [⟨0, 7, 0x53⟩, ⟨20, 12, 0xC02⟩]
  | .fcvtLuS _ _ _ => [⟨0, 7, 0x53⟩, ⟨20, 12, 0xC03⟩]
  | .fcvtSW _ _ _ => [⟨0, 7, 0x53⟩, ⟨20, 12, 0xD00⟩]
  | .fcvtSWu _ _ _ => [⟨0, 7, 0x53⟩, ⟨20, 12, 0xD01⟩]
  | .fcvtSL _ _ _ => [⟨0, 7, 0x53⟩, ⟨20, 12, 0xD02⟩]
  | .fcvtSLu _ _ _ => [⟨0, 7, 0x53⟩, ⟨20, 12, 0xD03⟩]
  | .fmvXW _ _ => [⟨0, 7, 0x53⟩, ⟨12, 3, 0x0⟩, ⟨20, 12, 0xE00⟩]
  | .fmvWX _ _ => [⟨0, 7, 0x53⟩, ⟨12, 3, 0x0⟩, ⟨20, 12, 0xF00⟩]
  | .fld _ _ _ => [⟨0, 7, 0x7⟩, ⟨12, 3, 0x3⟩]
  | .fsd _ _ _ => [⟨0, 7, 0x27⟩, ⟨12, 3, 0x3⟩]
  | .fmaddD _ _ _ _ _ => [⟨0, 7, 0x43⟩, ⟨25, 2, 0x1⟩]
  | .fmsubD _ _ _ _ _ => [⟨0, 7, 0x47⟩, ⟨25, 2, 0x1⟩]
  | .fnmsubD _ _ _ _ _ => [⟨0, 7, 0x4B⟩, ⟨25, 2, 0x1⟩]
  | .fnmaddD _ _ _ _ _ => [⟨0, 7, 0x4F⟩, ⟨25, 2, 0x1⟩]
  | .faddD _ _ _ _ => [⟨0, 7, 0x53⟩, ⟨25, 7, 0x1⟩]
  | .fsubD _ _ _ _ => [⟨0, 7, 0x53⟩, ⟨25, 7, 0x5⟩]
  | .fmulD _ _ _ _ => [⟨0, 7, 0x53⟩, ⟨25, 7, 0x9⟩]
  | .fdivD _ _ _ _ => [⟨0, 7, 0x53⟩, ⟨25, 7, 0xD⟩]
  | .fsqrtD _ _ _ => [⟨0, 7, 0x53⟩, ⟨20, 12, 0x5A0⟩]
  | .fsgnjD _ _ _ => [⟨0, 7, 0x53⟩, ⟨12, 3, 0x0⟩, ⟨25, 7, 0x11⟩]
  | .fsgnjnD _ _ _ => [⟨0, 7, 0x53⟩, ⟨12, 3, 0x1⟩, ⟨25, 7, 0x11⟩]
  | .fsgnjxD _ _ _ => [⟨0, 7, 0x53⟩, ⟨12, 3, 0x2⟩, ⟨25, 7, 0x11⟩]
  | .fminD _ _ _ => [⟨0, 7, 0x53⟩, ⟨12, 3, 0x0⟩, ⟨25, 7, 0x15⟩]
  | .fmaxD _ _ _ => [⟨0, 7, 0x53⟩, ⟨12, 3, 0x1⟩, ⟨25, 7, 0x15⟩]
  | .fcvtDS _ _ _ => [⟨0, 7, 0x53⟩, ⟨20, 12, 0x420⟩]
  | .feqD _ _ _ => [⟨0, 7, 0x53⟩, ⟨12, 3, 0x2⟩, ⟨25, 7, 0x51⟩]
  | .fltD _ _ _ => [⟨0, 7, 0x53⟩, ⟨12, 3, 0x1⟩, ⟨25, 7, 0x51⟩]
  | .fleD _ _ _ => [⟨0, 7, 0x53⟩, ⟨12, 3, 0x0⟩, ⟨25, 7, 0x51⟩]
  | .fclassD _ _ => [⟨0, 7, 0x53⟩, ⟨12, 3, 0x1⟩, ⟨20, 12, 0xE20⟩]
  | .fcvtWD _ _ _ => [⟨0, 7, 0x53⟩, ⟨20, 12, 0xC20⟩]
  | .fcvtWuD _ _ _ => [⟨0, 7, 0x53⟩, ⟨20, 12, 0xC21⟩]
  | .fcvtLD _ _ _ => [⟨0, 7, 0x53⟩, ⟨20, 12, 0xC22⟩]
  | .fcvtLuD _ _ _ => [⟨0, 7, 0x53⟩, ⟨20, 12, 0xC23⟩]
  | .fcvtDW _ _ _ => [⟨0, 7, 0x53⟩, ⟨20, 12, 0xD20⟩]
  | .fcvtDWu _ _ _ => [⟨0, 7, 0x53⟩, ⟨20, 12, 0xD21⟩]
  | .fcvtDL _ _ _ => [⟨0, 7, 0x53⟩, ⟨20, 12, 0xD22⟩]
  | .fcvtDLu _ _ _ => [⟨0, 7, 0x53⟩, ⟨20, 12, 0xD23⟩]
  | .fmvXD _ _ => [⟨0, 7, 0x53⟩, ⟨12, 3, 0x0⟩, ⟨20, 12, 0xE20⟩]
  | .fmvDX _ _ => [⟨0, 7, 0x53⟩, ⟨12, 3, 0x0⟩, ⟨20, 12, 0xF20⟩]

/-- The mnemonic of the instruction's row of opcode_table.json. -/
def Instr.mnemonic : Instr → String
  | .lui _ _ => "LUI"
  | .auipc _ _ => "AUIPC"
  | .jal _ _ => "JAL"
  | .jalr _ _ _ => "JALR"
  | .beq _ _ _ => "BEQ"
  | .bne _ _ _ => "BNE"
  | .blt _ _ _ => "BLT"
  | .bge _ _ _ => "BGE"
  | .bltu _ _ _ => "BLTU"
  | .bgeu _ _ _ => "BGEU"
  | .lb _ _ _ => "LB"
  | .lh _ _ _ => "LH"
  | .lw _ _ _ => "LW"
  | .ld _ _ _ => "LD"
  | .lbu _ _ _ => "LBU"
  | .lhu _ _ _ => "LHU"
  | .lwu _ _ _ => "LWU"
  | .sb _ _ _ => "SB"
  | .sh _ _ _ => "SH"
  | .sw _ _ _ => "SW"
  | .sd _ _ _ => "SD"
  | .addi _ _ _ => "ADDI"
  | .slti _ _ _ => "SLTI"
  | .sltiu _ _ _ => "SLTIU"
  | .xori _ _ _ => "XORI"
  | .ori _ _ _ => "ORI"
  | .andi _ _ _ => "ANDI"
  | .slli _ _ _ => "SLLI"
  | .srli _ _ _ => "SRLI"
  | .srai _ _ _ => "SRAI"
  | .add _ _ _ => "ADD"
  | .sub _ _ _ => "SUB"
  | .sll _ _ _ => "SLL"
  | .slt _ _ _ => "SLT"
  | .sltu _ _ _ => "SLTU"
  | .xor _ _ _ => "XOR"
  | .srl _ _ _ => "SRL"
  | .sra _ _ _ => "SRA"
  | .or _ _ _ => "OR"
  | .and _ _ _ => "AND"
  | .addiw _ _ _ => "ADDIW"
  | .slliw _ _ _ => "SLLIW"
  | .srliw _ _ _ => "SRLIW"
  | .sraiw _ _ _ => "SRAIW"
  | .addw _ _ _ => "ADDW"
  | .subw _ _ _ => "SUBW"
  | .sllw _ _ _ => "SLLW"
  | .srlw _ _ _ => "SRLW"
  | .sraw _ _ _ => "SRAW"
  | .pause => "PAUSE"
  | .fence _ _ _ _ _ => "FENCE"
  | .fenceI _ _ _ => "FENCE.I"
  | .ecall => "ECALL"
  | .ebreak => "EBREAK"
  | .mul _ _ _ => "MUL"
  | .mulh _ _ _ => "MULH"
  | .mulhsu _ _ _ => "MULHSU"
  | .mulhu _ _ _ => "MULHU"
  | .div _ _ _ => "DIV"
  | .divu _ _ _ => "DIVU"
  | .rem _ _ _ => "REM"
  | .remu _ _ _ => "REMU"
  | .mulw _ _ _ => "MULW"
  | .divw _ _ _ => "DIVW"
  | .divuw _ _ _ => "DIVUW"
  | .remw _ _ _ => "REMW"
  | .remuw _ _ _ => "REMUW"
  | .lrW _ _ _ _ => "LR.W"
  | .scW _ _ _ _ _ => "SC.W"
  | .amoswapW _ _ _ _ _ => "AMOSWAP.W"
  | .amoaddW _ _ _ _ _ => "AMOADD.W"
  | .amoxorW _ _ _ _ _ => "AMOXOR.W"
  | .amoandW _ _ _ _ _ => "AMOAND.W"
  | .amoorW _ _ _ _ _ => "AMOOR.W"
  | .amominW _ _ _ _ _ => "AMOMIN.W"
  | .amomaxW _ _ _ _ _ => "AMOMAX.W"
  | .amominuW _ _ _ _ _ => "AMOMINU.W"
  | .amomaxuW _ _ _ _ _ => "AMOMAXU.W"
  | .lrD _ _ _ _ => "LR.D"
  | .scD _ _ _ _ _ => "SC.D"
  | .amoswapD _ _ _ _ _ => "AMOSWAP.D"
  | .amoaddD _ _ _ _ _ => "AMOADD.D"
  | .amoxorD _ _ _ _ _ => "AMOXOR.D"
  | .amoandD _ _ _ _ _ => "AMOAND.D"
  | .amoorD _ _ _ _ _ => "AMOOR.D"
  | .amominD _ _ _ _ _ => "AMOMIN.D"
  | .amomaxD _ _ _ _ _ => "AMOMAX.D"
  | .amominuD _ _ _ _ _ => "AMOMINU.D"
  | .amomaxuD _ _ _ _ _ => "AMOMAXU.D"
  | .flw _ _ _ => "FLW"
  | .fsw _ _ _ => "FSW"
  | .fmaddS _ _ _ _ _ => "FMADD.S"
  | .fmsubS _ _ _ _ _ => "FMSUB.S"
  | .fnmsubS _ _ _ _ _ => "FNMSUB.S"
  | .fnmaddS _ _ _ _ _ => "FNMADD.S"
  | .faddS _ _ _ _ => "FADD.S"
  | .fsubS _ _ _ _ => "FSUB.S"
  | .fmulS _ _ _ _ => "FMUL.S"
  | .fdivS _ _ _ _ => "FDIV.S"
  | .fsqrtS _ _ _ => "FSQRT.S"
  | .fsgnjS _ _ _ => "FSGNJ.S"
  | .fsgnjnS _ _ _ => "FSGNJN.S"
  | .fsgnjxS _ _ _ => "FSGNJX.S"
  | .fminS _ _ _ => "FMIN.S"
  | .fmaxS _ _ _ => "FMAX.S"
  | .fcvtSD _ _ _ => "FCVT.S.D"
  | .feqS _ _ _ => "FEQ.S"
  | .fltS _ _ _ => "FLT.S"
  | .fleS _ _ _ => "FLE.S"
  | .fclassS _ _ => "FCLASS.S"
  | .fcvtWS _ _ _ => "FCVT.W.S"
  | .fcvtWuS _ _ _ => "FCVT.WU.S"
  | .fcvtLS _ _ _ => "FCVT.L.S"
  | .fcvtLuS _ _ _ => "FCVT.LU.S"
  | .fcvtSW _ _ _ => "FCVT.S.W"
  | .fcvtSWu _ _ _ => "FCVT.S.WU"
  | .fcvtSL _ _ _ => "FCVT.S.L"
  | .fcvtSLu _ _ _ => "FCVT.S.LU"
  | .fmvXW _ _ => "FMV.X.W"
  | .fmvWX _ _ => "FMV.W.X"
  | .fld _ _ _ => "FLD"
  | .fsd _ _ _ => "FSD"
  | .fmaddD _ _ _ _ _ => "FMADD.D"
  | .fmsubD _ _ _ _ _ => "FMSUB.D"
  | .fnmsubD _ _ _ _ _ => "FNMSUB.D"
  | .fnmaddD _ _ _ _ _ => "FNMADD.D"
  | .faddD _ _ _ _ => "FADD.D"
  | .fsubD _ _ _ _ => "FSUB.D"
  | .fmulD _ _ _ _ => "FMUL.D"
  | .fdivD _ _ _ _ => "FDIV.D"
  | .fsqrtD _ _ _ => "FSQRT.D"
  | .fsgnjD _ _ _ => "FSGNJ.D"
  | .fsgnjnD _ _ _ => "FSGNJN.D"
  | .fsgnjxD _ _ _ => "FSGNJX.D"
  | .fminD _ _ _ => "FMIN.D"
  | .fmaxD _ _ _ => "FMAX.D"
  | .fcvtDS _ _ _ => "FCVT.D.S"
  | .feqD _ _ _ => "FEQ.D"
  | .fltD _ _ _ => "FLT.D"
  | .fleD _ _ _ => "FLE.D"
  | .fclassD _ _ => "FCLASS.D"
  | .fcvtWD _ _ _ => "FCVT.W.D"
  | .fcvtWuD _ _ _ => "FCVT.WU.D"
  | .fcvtLD _ _ _ => "FCVT.L.D"
  | .fcvtLuD _ _ _ => "FCVT.LU.D"
  | .fcvtDW _ _ _ => "FCVT.D.W"
  | .fcvtDWu _ _ _ => "FCVT.D.WU"
  | .fcvtDL _ _ _ => "FCVT.D.L"
  | .fcvtDLu _ _ _ => "FCVT.D.LU"
  | .fmvXD _ _ => "FMV.X.D"
  | .fmvDX _ _ => "FMV.D.X"

end Sys2Proof

namespace Sys2Proof.Machine

/-- The byte a RAM holds at an address. -/
def State.byteAt (s : State) (a : Nat) : Byte := s.mem.read a

/-- An access of `n` bytes at `a` lies inside one RAM (R40, R43). -/
def InRam (s : State) (a n : Nat) : Prop := ∃ size loc, resolve s.bus a = .found (.ram size) loc ∧ loc + n ≤ size

/-- The platform of a state: its bus map and its two parameters, which nothing changes (R37, R293). -/
structure SamePlatform (s t : State) : Prop where
  bus : t.bus = s.bus
  execM : t.execM = s.execM
  execA : t.execA = s.execA

/-- `B[a+1] ++ B[a]` of R47. -/
def State.halfAt (s : State) (a : Nat) : BitVec 16 := s.byteAt (a + 1) ++ s.byteAt a

/-- `B[a+3] ++ ... ++ B[a]` of R47. -/
def State.wordAt (s : State) (a : Nat) : BitVec 32 := s.byteAt (a + 3) ++ s.byteAt (a + 2) ++ s.byteAt (a + 1) ++ s.byteAt a

/-- `B[a+7] ++ ... ++ B[a]` of R47. -/
def State.doubleAt (s : State) (a : Nat) : BitVec 64 :=
  s.byteAt (a + 7) ++ s.byteAt (a + 6) ++ s.byteAt (a + 5) ++ s.byteAt (a + 4) ++
    s.byteAt (a + 3) ++ s.byteAt (a + 2) ++ s.byteAt (a + 1) ++ s.byteAt a

/-- Only `rd` (unless it is x0) and the pc differ: the registers, the f registers, every byte of memory, the platform and the
device history are otherwise as before. -/
structure OnlyRegister (s t : State) (rd : XReg) (v : Word) (pc : Word) : Prop where
  regs : ∀ r, t.readX r = if r = rd ∧ rd.idx ≠ 0#5 then v else s.readX r
  fregs : ∀ r, t.readF r = s.readF r
  pc : t.pc = pc
  mem : ∀ a, t.byteAt a = s.byteAt a
  platform : SamePlatform s t
  devLog : t.devLog = s.devLog

/-- Only the pc differs. -/
structure OnlyPc (s t : State) (pc : Word) : Prop where
  regs : ∀ r, t.readX r = s.readX r
  fregs : ∀ r, t.readF r = s.readF r
  pc : t.pc = pc
  mem : ∀ a, t.byteAt a = s.byteAt a
  platform : SamePlatform s t
  devLog : t.devLog = s.devLog

/-- Only the `n` bytes from `a` on and the pc differ; the byte at `a + k` becomes bits `8k+7:8k` of `v` (R48). -/
structure OnlyBytes (s t : State) (a n : Nat) (v : Word) (pc : Word) : Prop where
  regs : ∀ r, t.readX r = s.readX r
  fregs : ∀ r, t.readF r = s.readF r
  pc : t.pc = pc
  stored : ∀ k, k < n → t.byteAt (a + k) = v.extractLsb' (8 * k) 8
  mem : ∀ b, b < a ∨ a + n ≤ b → t.byteAt b = s.byteAt b
  platform : SamePlatform s t
  devLog : t.devLog = s.devLog

/-- Only the `n` bytes from `a` on, `rd` (unless it is x0) and the pc differ. -/
structure OnlyBytesAndRegister (s t : State) (a n : Nat) (v : Word) (rd : XReg) (r : Word) (pc : Word) : Prop where
  regs : ∀ q, t.readX q = if q = rd ∧ rd.idx ≠ 0#5 then r else s.readX q
  fregs : ∀ r, t.readF r = s.readF r
  pc : t.pc = pc
  stored : ∀ k, k < n → t.byteAt (a + k) = v.extractLsb' (8 * k) 8
  mem : ∀ b, b < a ∨ a + n ≤ b → t.byteAt b = s.byteAt b
  platform : SamePlatform s t
  devLog : t.devLog = s.devLog

/-! ## How an instruction completes -/

/-- `exec` answers a next state: `v` is in `rd` (nothing, where rd is x0), the pc is `pc + 4`, nothing else differs. -/
def CompletesWriting (i : Instr) (s : State) (rd : XReg) (v : Word) : Prop :=
  ∃ t, exec i s = .next t ∧ OnlyRegister s t rd v (s.pc + 4#64)

/-- `exec` answers a next state: the pc is `pc`, nothing else differs. -/
def CompletesAt (i : Instr) (s : State) (pc : Word) : Prop := ∃ t, exec i s = .next t ∧ OnlyPc s t pc

/-- `exec` answers a next state: the `n` bytes from `a` on are those of `v`, the pc is `pc + 4`, nothing else differs. -/
def CompletesStoring (i : Instr) (s : State) (a n : Nat) (v : Word) : Prop :=
  ∃ t, exec i s = .next t ∧ OnlyBytes s t a n v (s.pc + 4#64)

/-- `exec` answers a next state: the `n` bytes from `a` on are those of `v`, `r` is in `rd` (nothing, where rd is x0), the pc
is `pc + 4`, nothing else differs. -/
def CompletesStoringAndWriting (i : Instr) (s : State) (a n : Nat) (v : Word) (rd : XReg) (r : Word) : Prop :=
  ∃ t, exec i s = .next t ∧ OnlyBytesAndRegister s t a n v rd r (s.pc + 4#64)

/-- A load rule (R161 to R167, R190, R192): where the `n` bytes lie in a RAM the instruction completes with `v` in `rd`; where
`MemRead` answers `u`, from whichever device, `ext u` is in `rd`; where it faults, `ExecDevice` of that fault. -/
def LoadsAs (i : Instr) (s : State) (rd : XReg) (addr : Word) (n : Nat) (v : Word) (ext : Word → Word) : Prop :=
  (InRam s addr.toNat n → CompletesWriting i s rd v) ∧
  (∀ u s', memRead s addr n = .ok (u, s') → ∃ t, exec i s = .next t ∧ OnlyRegister s' t rd (ext u) (s.pc + 4#64)) ∧
  (∀ f, memRead s addr n = .error f → exec i s = .fault (.execute (.device f)))

/-- A load of `n` bytes whose address an external device owns (R55, R120): the outcome is the device's one answer. Where the
device performs the read its history grows by this read alone, and the answered bytes, least significant first, extended by
`ext`, are in `rd` (nothing, where rd is x0); where it faults, `ExecDevice` of that fault. -/
def LoadsFromDevice (i : Instr) (s : State) (rd : XReg) (size id loc n : Nat) (ext : Word → Word) : Prop :=
  match externalRead s size id loc n with
  | .ok (bs, s') =>
    s' = { s with devLog := ⟨id, loc, .read n⟩ :: s.devLog } ∧ bs.length = n ∧
      ∃ t, exec i s = .next t ∧ OnlyRegister s' t rd (ext (BitVec.ofNat 64 (packLittle bs))) (s.pc + 4#64)
  | .error f => exec i s = .fault (.execute (.device f))

/-- A store rule (R168 to R171): where the `n` bytes lie in a RAM the instruction completes with the low bytes of `v` there;
whichever device answers, only the pc changes besides; where `MemWrite` faults, `ExecDevice` of that fault. -/
def StoresAs (i : Instr) (s : State) (addr : Word) (n : Nat) (v : Word) : Prop :=
  (Memory.wf s.mem → InRam s addr.toNat n → CompletesStoring i s addr.toNat n v) ∧
  (∀ s', memWrite s addr n v = .ok s' → ∃ t, exec i s = .next t ∧ OnlyPc s' t (s.pc + 4#64)) ∧
  (∀ f, memWrite s addr n v = .error f → exec i s = .fault (.execute (.device f)))

/-- A store-conditional rule (R191, R193): a store rule with 0 in `rd` where the store does not fault. -/
def StoresConditionallyAs (i : Instr) (s : State) (rd : XReg) (addr : Word) (n : Nat) (v : Word) : Prop :=
  (Memory.wf s.mem → InRam s addr.toNat n → CompletesStoringAndWriting i s addr.toNat n v rd 0#64) ∧
  (∀ s', memWrite s addr n v = .ok s' → ∃ t, exec i s = .next t ∧ OnlyRegister s' t rd 0#64 (s.pc + 4#64)) ∧
  (∀ f, memWrite s addr n v = .error f → exec i s = .fault (.execute (.device f)))

/-- An AMO rule at width `n` (R194 to R211): where the `n` bytes lie in a RAM, holding `old`, the instruction completes with
`op old` there and `old`, sign-extended, in `rd`; whichever device answers, the same of the value `MemRead` answers; a fault of
the read, or else of the write (only an external device answers the one and refuses the other), is `ExecDevice` of that fault. -/
def UpdatesAs (i : Instr) (s : State) (rd : XReg) (addr : Word) (n : Nat) (old : BitVec (8 * n))
    (op : BitVec (8 * n) → BitVec (8 * n)) : Prop :=
  (Memory.wf s.mem → InRam s addr.toNat n →
    CompletesStoringAndWriting i s addr.toNat n ((op old).setWidth 64) rd (old.signExtend 64)) ∧
  (∀ u s' s'', memRead s addr n = .ok (u, s') → memWrite s' addr n ((op (u.setWidth (8 * n))).setWidth 64) = .ok s'' →
    ∃ t, exec i s = .next t ∧ OnlyRegister s'' t rd ((u.setWidth (8 * n)).signExtend 64) (s.pc + 4#64)) ∧
  (∀ f, (memRead s addr n = .error f ∨
      ∃ u s', memRead s addr n = .ok (u, s') ∧ memWrite s' addr n ((op (u.setWidth (8 * n))).setWidth 64) = .error f) →
    exec i s = .fault (.execute (.device f)))

/-- An M rule under both values of `EXEC_M` (R9). -/
def MultipliesAs (i : Instr) (s : State) (rd : XReg) (v : Word) : Prop :=
  (s.execM = .standard → CompletesWriting i s rd v) ∧
  (s.execM = .unimplemented → exec i s = .fault (.execute (.unimplemented (.instr i))))

/-- An A rule under both values of `EXEC_A` (R10). -/
def UnderExecA (i : Instr) (s : State) (rule : Prop) : Prop :=
  (s.execA = .plain → rule) ∧ (s.execA = .unimplemented → exec i s = .fault (.execute (.unimplemented (.instr i))))

/-! ## The entries of a bus map -/

/-- The device of one entry of a bus map (R37, R41). -/
inductive EntryDevice where
  | ram (size : Nat)
  | external (size id : Nat)
  | bus (inner : Bus)
  deriving DecidableEq, Repr

/-- `address_space_size()` of an entry's device. -/
def EntryDevice.size : EntryDevice → Nat
  | .ram size => size
  | .external size _ => size
  | .bus inner => busSize inner

/-- What an access at a device-local address of the entry's device reaches (R40, R41). -/
def EntryDevice.reach : EntryDevice → Nat → Resolution
  | .ram size, loc => .found (.ram size) loc
  | .external size id, loc => .found (.external size id) loc
  | .bus inner, loc => resolve inner loc

/-- The (base, device) pairs of one level of a bus map, in order (R37). -/
def busEntries : Bus → List (Nat × EntryDevice)
  | .empty => []
  | .ram base size rest => (base, .ram size) :: busEntries rest
  | .external base size id rest => (base, .external size id) :: busEntries rest
  | .nested base inner rest => (base, .bus inner) :: busEntries rest

/-- The entry owns the address (R37). -/
abbrev Owns (e : Nat × EntryDevice) (a : Nat) : Prop := InRange e.1 e.2.size a

/-! ## The invariant, and a safe step -/

/-- The invariant of a constructed machine: RAM contents in canonical form, a well-formed bus map (R38), every listed byte in
a RAM, and the x0 slot of the register file still 0 (R21). -/
structure State.Inv (s : State) : Prop where
  canonical : Memory.wf s.mem
  busWf : busWf s.bus = true
  owned : ∀ c ∈ s.mem, ramAt s.bus c.1 = true
  x0Slot : s.x[0] = 0#64

/-- A run is safe while no step is refused: every failure is then one of the spec's three error families (R274). -/
def SafeStep (s : State) : Prop := ∀ r, step s ≠ .refused r

end Sys2Proof.Machine
end

