-- ==== Sys2Proof/Certificates/Slice0/Obligations.lean ====
section
/-! DEFINITION. The statements for the provers, from the numbered rules of spec/. -/

open Sys2Proof Sys2Proof.Machine

/-- O1. Every bit of every operand survives the encoder and the decoder (R65 to R100). -/
def Obligations.DecodeEncodeRoundTrip : Prop :=
  ∀ i : Instr, i.wf = true → decode (encode i) = .ok i

/-- O2. Decoding loses nothing: the instruction spells exactly the word it was decoded from. That this holds of FENCE.I too is the model's choice (log entry 12, DEDUCED): its record keeps the immediate its row of the table names, which the spec's vectors do not write. -/
def Obligations.EncodeDecodeRoundTrip : Prop :=
  ∀ (w : InstrWord) (i : Instr), decode w = .ok i → i.wf = true ∧ encode i = w

/-- O3. The 21 assigned opcodes are the hexadecimal column of R64's table. -/
def Obligations.UnassignedOpcodesAreNoFormat : Prop :=
  (∀ w : InstrWord,
    decode w = .error (.noFormat (w.extractLsb' 0 7)) ↔
      (w.extractLsb' 0 7).toNat ∉ [0x03, 0x07, 0x0F, 0x13, 0x17, 0x1B, 0x23, 0x27, 0x2F, 0x33, 0x37, 0x3B, 0x43, 0x47, 0x4B,
        0x4F, 0x53, 0x63, 0x67, 0x6F, 0x73]) ∧
  (∀ w : InstrWord, w.extractLsb' 0 2 ≠ 0b11#2 → decode w = .error (.noFormat (w.extractLsb' 0 7))) ∧
  ((List.range 128).filter fun n => formatOf (BitVec.ofNat 7 n) = none).length = 107

/-- O4. The positions are those of R65 to R71, and R4 reports as R. -/
def Obligations.NoVariantCarriesTheFields : Prop :=
  (∀ (w : InstrWord) (d : DecodeFault), decode w = .error d →
    (d = .noFormat (w.extractLsb' 0 7) ∧ formatOf (w.extractLsb' 0 7) = none) ∨
    ∃ fields, d = .noVariant (w.extractLsb' 0 7) fields ∧
      (((w.extractLsb' 0 7).toNat ∈ [0x2F, 0x33, 0x3B, 0x43, 0x47, 0x4B, 0x4F, 0x53] ∧
          fields = .r (w.extractLsb' 12 3) (w.extractLsb' 7 5) (w.extractLsb' 15 5) (w.extractLsb' 20 5) (w.extractLsb' 25 7)) ∨
        ((w.extractLsb' 0 7).toNat ∈ [0x03, 0x07, 0x0F, 0x13, 0x1B, 0x67, 0x73] ∧
          fields = .i (w.extractLsb' 12 3) (w.extractLsb' 7 5) (w.extractLsb' 15 5) ((w.extractLsb' 20 12).signExtend 64)) ∨
        ((w.extractLsb' 0 7).toNat ∈ [0x23, 0x27] ∧
          fields = .s (w.extractLsb' 12 3) (w.extractLsb' 15 5) (w.extractLsb' 20 5)
            ((w.extractLsb' 25 7 ++ w.extractLsb' 7 5).signExtend 64)) ∨
        ((w.extractLsb' 0 7).toNat = 0x63 ∧
          fields = .b (w.extractLsb' 12 3) (w.extractLsb' 15 5) (w.extractLsb' 20 5)
            ((w.extractLsb' 31 1 ++ w.extractLsb' 7 1 ++ w.extractLsb' 25 6 ++ w.extractLsb' 8 4 ++ 0#1).signExtend 64)))) ∧
  (∀ w : InstrWord,
    ((w.extractLsb' 0 7).toNat = 0x17 → decode w = .ok (.auipc ⟨w.extractLsb' 7 5⟩ (immU w))) ∧
    ((w.extractLsb' 0 7).toNat = 0x37 → decode w = .ok (.lui ⟨w.extractLsb' 7 5⟩ (immU w))) ∧
    ((w.extractLsb' 0 7).toNat = 0x6F → decode w = .ok (.jal ⟨w.extractLsb' 7 5⟩ (immJ w))))

/-- O5. One direction of the agreement of the decoder with opcode_table.json. -/
def Obligations.DecodedWordFitsItsRow : Prop :=
  ∀ (w : InstrWord) (i : Instr), decode w = .ok i → ∀ f ∈ i.fixedFields, f.holdsOf w

/-- O6. The other direction: no word of a row is refused or read as another row's. -/
def Obligations.RowWordDecodesToItsRow : Prop :=
  ∀ (w : InstrWord) (i : Instr), (∀ f ∈ i.fixedFields, f.holdsOf w) →
    ∃ j, decode w = .ok j ∧
      (j.mnemonic = i.mnemonic ∨ (w = 0x0100000F#32 ∧ i.mnemonic = "FENCE" ∧ j.mnemonic = "PAUSE"))

/-- O7. The five immediates bit by bit (R74 to R78), and the sign rule with its example (R79). -/
def Obligations.ImmediateBits : Prop :=
  (∀ (w : InstrWord) (j : Nat), j < 64 →
    (immI w).getLsbD j = w.getLsbD (if j < 12 then 20 + j else 31) ∧
    (immS w).getLsbD j = w.getLsbD (if j < 5 then 7 + j else if j < 12 then 20 + j else 31) ∧
    (immB w).getLsbD j =
      (decide (j ≠ 0) && w.getLsbD (if j < 5 then 7 + j else if j < 11 then 20 + j else if j = 11 then 7 else 31)) ∧
    (immU w).getLsbD j = (decide (12 ≤ j) && w.getLsbD (if j < 32 then j else 31)) ∧
    (immJ w).getLsbD j =
      (decide (j ≠ 0) && w.getLsbD (if j < 11 then 20 + j else if j = 11 then 20 else if j < 20 then j else 31))) ∧
  (∀ w : InstrWord,
    (-2048 ≤ (immI w).toInt ∧ (immI w).toInt ≤ 2047) ∧
    (-2048 ≤ (immS w).toInt ∧ (immS w).toInt ≤ 2047) ∧
    (-4096 ≤ (immB w).toInt ∧ (immB w).toInt ≤ 4094 ∧ (immB w).toInt % 2 = 0) ∧
    (-1048576 ≤ (immJ w).toInt ∧ (immJ w).toInt ≤ 1048574 ∧ (immJ w).toInt % 2 = 0)) ∧
  decode 0xEB7D0767#32 = .ok (.jalr ⟨14#5⟩ ⟨26#5⟩ 0xFFFFFFFFFFFFFEB7#64)

/-- O8. The table of R81, and R106 on one word for each reserved code. -/
def Obligations.RoundingModeCodes : Prop :=
  RoundingMode.ofCode 0b000#3 = .rne ∧ RoundingMode.ofCode 0b001#3 = .rtz ∧ RoundingMode.ofCode 0b010#3 = .rdn ∧
  RoundingMode.ofCode 0b011#3 = .rup ∧ RoundingMode.ofCode 0b100#3 = .rmm ∧
  RoundingMode.ofCode 0b101#3 = .invalid 0b101#3 ∧ RoundingMode.ofCode 0b110#3 = .invalid 0b110#3 ∧
  RoundingMode.ofCode 0b111#3 = .dyn ∧
  decode 0b00100_00_00011_00010_101_00001_1000011#32 = .ok (.fmaddS ⟨1#5⟩ ⟨2#5⟩ ⟨3#5⟩ ⟨4#5⟩ (.invalid 0b101#3)) ∧
  decode 0b00100_00_00011_00010_110_00001_1000011#32 = .ok (.fmaddS ⟨1#5⟩ ⟨2#5⟩ ⟨3#5⟩ ⟨4#5⟩ (.invalid 0b110#3))

/-- O9. R100. -/
def Obligations.SystemWords : Prop :=
  decode 0x00000073#32 = .ok .ecall ∧ decode 0x00100073#32 = .ok .ebreak ∧
  ∀ w : InstrWord, w.extractLsb' 0 7 = 0b1110011#7 → w ≠ 0x00000073#32 → w ≠ 0x00100073#32 →
    decode w = .error (.noVariant 0b1110011#7 (.i (w.extractLsb' 12 3) (w.extractLsb' 7 5) (w.extractLsb' 15 5)
      ((w.extractLsb' 20 12).signExtend 64)))

/-- O10. R85; the fields of FENCE stand where R82 puts them. -/
def Obligations.MiscMemWords : Prop :=
  decode 0x0100000F#32 = .ok .pause ∧
  decode 0x8330000F#32 = .ok (.fence 0b1000#4 0b0011#4 0b0011#4 ⟨0#5⟩ ⟨0#5⟩) ∧
  ∀ w : InstrWord, w.extractLsb' 0 7 = 0b0001111#7 → w ≠ 0x0100000F#32 →
    (w.extractLsb' 12 3 = 0b000#3 →
      decode w = .ok (.fence (w.extractLsb' 28 4) (w.extractLsb' 24 4) (w.extractLsb' 20 4) ⟨w.extractLsb' 15 5⟩
        ⟨w.extractLsb' 7 5⟩)) ∧
    (w.extractLsb' 12 3 = 0b001#3 → ∃ rd rs1 imm, decode w = .ok (.fenceI rd rs1 imm)) ∧
    (w.extractLsb' 12 3 ≠ 0b000#3 → w.extractLsb' 12 3 ≠ 0b001#3 → ∃ fields, decode w = .error (.noVariant 0b0001111#7 fields))

/-- O11. R104, and one Example line each of R123, R153, R155, R161, R168, R172, R177, R194, R205 and R214. -/
def Obligations.WorkedWords : Prop :=
  decode 0b0000000_10111_11010_000_01110_0110011#32 = .ok (.add ⟨14#5⟩ ⟨26#5⟩ ⟨23#5⟩) ∧
  decode 0x123452B7#32 = .ok (.lui ⟨5#5⟩ 0x12345000#64) ∧
  decode 0xFF9FF0EF#32 = .ok (.jal ⟨1#5⟩ (-8#64)) ∧
  decode 0xFE7308E3#32 = .ok (.beq ⟨6#5⟩ ⟨7#5⟩ (-16#64)) ∧
  decode 0x00330283#32 = .ok (.lb ⟨5#5⟩ ⟨6#5⟩ 3#64) ∧
  decode 0xFE730C23#32 = .ok (.sb ⟨6#5⟩ ⟨7#5⟩ (-8#64)) ∧
  decode 0x0330000F#32 = .ok (.fence 0#4 0b0011#4 0b0011#4 ⟨0#5⟩ ⟨0#5⟩) ∧
  decode 0x027302B3#32 = .ok (.mul ⟨5#5⟩ ⟨6#5⟩ ⟨7#5⟩) ∧
  decode 0x087322AF#32 = .ok (.amoswapW ⟨5#5⟩ ⟨6#5⟩ ⟨7#5⟩ false false) ∧
  decode 0x207332AF#32 = .ok (.amoxorD ⟨5#5⟩ ⟨6#5⟩ ⟨7#5⟩ false false) ∧
  decode 0x203100C3#32 = .ok (.fmaddS ⟨1#5⟩ ⟨2#5⟩ ⟨3#5⟩ ⟨4#5⟩ .rne)

/-- O12. R112, each result as a number rather than as a bit operation; `bmod 2^32` is the signed value of the low 32 bits. -/
def Obligations.AluTable : Prop :=
  ∀ a b : Word,
    (alu .add a b).toNat = (a.toNat + b.toNat) % 2 ^ 64 ∧
    (alu .sub a b).toNat = (a.toNat + 2 ^ 64 - b.toNat) % 2 ^ 64 ∧
    (alu .sll a b).toNat = a.toNat * 2 ^ (b.toNat % 64) % 2 ^ 64 ∧
    (alu .srl a b).toNat = a.toNat / 2 ^ (b.toNat % 64) ∧
    (alu .sra a b).toInt = a.toInt / 2 ^ (b.toNat % 64) ∧
    alu .slt a b = (if a.toInt < b.toInt then 1#64 else 0#64) ∧
    alu .sltu a b = (if a.toNat < b.toNat then 1#64 else 0#64) ∧
    (∀ j, (alu .xor a b).getLsbD j = (a.getLsbD j != b.getLsbD j)) ∧
    (∀ j, (alu .or a b).getLsbD j = (a.getLsbD j || b.getLsbD j)) ∧
    (∀ j, (alu .and a b).getLsbD j = (a.getLsbD j && b.getLsbD j)) ∧
    (alu .addw a b).toInt = ((a.toNat : Int) + b.toNat).bmod (2 ^ 32) ∧
    (alu .subw a b).toInt = ((a.toNat : Int) - b.toNat).bmod (2 ^ 32) ∧
    (alu .sllw a b).toInt = ((a.toNat : Int) * 2 ^ (b.toNat % 32)).bmod (2 ^ 32) ∧
    (alu .srlw a b).toInt = ((a.toNat % 2 ^ 32 / 2 ^ (b.toNat % 32) : Nat) : Int).bmod (2 ^ 32) ∧
    (alu .sraw a b).toInt = (a.toNat : Int).bmod (2 ^ 32) / 2 ^ (b.toNat % 32)

/-- O13. R113, clause by clause; that ADD and SUB never trap is that `alu` is a function with no fault. -/
def Obligations.AluConsequences : Prop :=
  (alu .add 0x7FFFFFFFFFFFFFFF#64 1#64 = 0x8000000000000000#64 ∧ alu .sub 0#64 1#64 = 0xFFFFFFFFFFFFFFFF#64) ∧
  (∀ a : Word, alu .sll a 0#64 = a ∧ alu .srl a 0#64 = a ∧ alu .sra a 0#64 = a ∧
    alu .sllw a 0#64 = (a.setWidth 32).signExtend 64 ∧ alu .srlw a 0#64 = (a.setWidth 32).signExtend 64 ∧
    alu .sraw a 0#64 = (a.setWidth 32).signExtend 64) ∧
  (∀ a b : Word,
    (∀ op ∈ [AluOp.sll, .srl, .sra], alu op a b = alu op a (BitVec.ofNat 64 (b.toNat % 64))) ∧
    (∀ op ∈ [AluOp.sllw, .srlw, .sraw], alu op a b = alu op a (BitVec.ofNat 64 (b.toNat % 32))) ∧
    (∀ op ∈ [AluOp.slt, .sltu], alu op a b = 0#64 ∨ alu op a b = 1#64) ∧
    (alu .sltu 0#64 b = 1#64 ↔ b ≠ 0#64) ∧ (alu .sltu a 1#64 = 1#64 ↔ a = 0#64)) ∧
  (∀ op ∈ [AluOp.addw, .subw, .sllw, .srlw, .sraw], ∀ a b a' b' : Word,
    a.setWidth 32 = a'.setWidth 32 → b.setWidth 32 = b'.setWidth 32 → alu op a b = alu op a' b')

/-- O14. R114. -/
def Obligations.BranchComparator : Prop :=
  ∀ a b : Word,
    (Machine.cmp .eq a b = true ↔ a = b) ∧ (Machine.cmp .ne a b = true ↔ a ≠ b) ∧
    (Machine.cmp .lt a b = true ↔ a.toInt < b.toInt) ∧ (Machine.cmp .ge a b = true ↔ b.toInt ≤ a.toInt) ∧
    (Machine.cmp .ltu a b = true ↔ a.toNat < b.toNat) ∧ (Machine.cmp .geu a b = true ↔ b.toNat ≤ a.toNat)

/-- O15. R21; the premise-free clauses hold in states no run reaches too. -/
def Obligations.ZeroRegisterAndPlainStorage : Prop :=
  ∀ (s : State) (r q : XReg) (v : Word),
    (r.idx = 0#5 → s.readX r = 0#64 ∧ s.writeX r v = s) ∧
    (r.idx ≠ 0#5 → (s.writeX r v).readX r = v) ∧
    (q ≠ r → (s.writeX r v).readX q = s.readX q)

/-- O16. R123 and R124. -/
def Obligations.UpperImmediates : Prop :=
  ∀ (s : State) (rd : XReg) (imm20 : BitVec 20) (imm : Word),
    decode (imm20 ++ rd.idx ++ 0b0110111#7) = .ok (.lui rd ((imm20 ++ 0#12).signExtend 64)) ∧
    decode (imm20 ++ rd.idx ++ 0b0010111#7) = .ok (.auipc rd ((imm20 ++ 0#12).signExtend 64)) ∧
    CompletesWriting (.lui rd imm) s rd (imm) ∧
    CompletesWriting (.auipc rd imm) s rd (s.pc + imm)

/-- O17. R125, R126, R127. -/
def Obligations.AddAndCompareImmediates : Prop :=
  ∀ (s : State) (rd rs1 : XReg) (imm12 : BitVec 12) (imm : Word),
    decode (imm12 ++ rs1.idx ++ 0b000#3 ++ rd.idx ++ 0b0010011#7) = .ok (.addi rd rs1 (imm12.signExtend 64)) ∧
    CompletesWriting (.addi rd rs1 imm) s rd (s.readX rs1 + imm) ∧
    decode (imm12 ++ rs1.idx ++ 0b010#3 ++ rd.idx ++ 0b0010011#7) = .ok (.slti rd rs1 (imm12.signExtend 64)) ∧
    CompletesWriting (.slti rd rs1 imm) s rd (if (s.readX rs1).toInt < imm.toInt then 1#64 else 0#64) ∧
    decode (imm12 ++ rs1.idx ++ 0b011#3 ++ rd.idx ++ 0b0010011#7) = .ok (.sltiu rd rs1 (imm12.signExtend 64)) ∧
    CompletesWriting (.sltiu rd rs1 imm) s rd (if (s.readX rs1).toNat < imm.toNat then 1#64 else 0#64)

/-- O18. R128, R129, R130. -/
def Obligations.LogicImmediates : Prop :=
  ∀ (s : State) (rd rs1 : XReg) (imm12 : BitVec 12) (imm : Word),
    decode (imm12 ++ rs1.idx ++ 0b100#3 ++ rd.idx ++ 0b0010011#7) = .ok (.xori rd rs1 (imm12.signExtend 64)) ∧
    CompletesWriting (.xori rd rs1 imm) s rd (s.readX rs1 ^^^ imm) ∧
    decode (imm12 ++ rs1.idx ++ 0b110#3 ++ rd.idx ++ 0b0010011#7) = .ok (.ori rd rs1 (imm12.signExtend 64)) ∧
    CompletesWriting (.ori rd rs1 imm) s rd (s.readX rs1 ||| imm) ∧
    decode (imm12 ++ rs1.idx ++ 0b111#3 ++ rd.idx ++ 0b0010011#7) = .ok (.andi rd rs1 (imm12.signExtend 64)) ∧
    CompletesWriting (.andi rd rs1 imm) s rd (s.readX rs1 &&& imm)

/-- O19. R131 to R133. -/
def Obligations.ShiftImmediates : Prop :=
  ∀ (s : State) (rd rs1 : XReg) (shamt : BitVec 6),
    decode (0b000000#6 ++ shamt ++ rs1.idx ++ 0b001#3 ++ rd.idx ++ 0b0010011#7) = .ok (.slli rd rs1 shamt) ∧
    CompletesWriting (.slli rd rs1 shamt) s rd (s.readX rs1 <<< shamt.toNat) ∧
    decode (0b000000#6 ++ shamt ++ rs1.idx ++ 0b101#3 ++ rd.idx ++ 0b0010011#7) = .ok (.srli rd rs1 shamt) ∧
    CompletesWriting (.srli rd rs1 shamt) s rd (s.readX rs1 >>> shamt.toNat) ∧
    decode (0b010000#6 ++ shamt ++ rs1.idx ++ 0b101#3 ++ rd.idx ++ 0b0010011#7) = .ok (.srai rd rs1 shamt) ∧
    CompletesWriting (.srai rd rs1 shamt) s rd ((s.readX rs1).sshiftRight shamt.toNat) ∧
    (∀ func6 : BitVec 6, func6 ≠ 0b000000#6 → ∃ fields,
      decode (func6 ++ shamt ++ rs1.idx ++ 0b001#3 ++ rd.idx ++ 0b0010011#7) = .error (.noVariant 0b0010011#7 fields))

/-- O20. R134, R135, R137, R138. -/
def Obligations.AddSubtractCompare : Prop :=
  ∀ (s : State) (rd rs1 rs2 : XReg),
    decode (0b0000000#7 ++ rs2.idx ++ rs1.idx ++ 0b000#3 ++ rd.idx ++ 0b0110011#7) = .ok (.add rd rs1 rs2) ∧
    CompletesWriting (.add rd rs1 rs2) s rd (s.readX rs1 + s.readX rs2) ∧
    decode (0b0100000#7 ++ rs2.idx ++ rs1.idx ++ 0b000#3 ++ rd.idx ++ 0b0110011#7) = .ok (.sub rd rs1 rs2) ∧
    CompletesWriting (.sub rd rs1 rs2) s rd (s.readX rs1 - s.readX rs2) ∧
    decode (0b0000000#7 ++ rs2.idx ++ rs1.idx ++ 0b010#3 ++ rd.idx ++ 0b0110011#7) = .ok (.slt rd rs1 rs2) ∧
    CompletesWriting (.slt rd rs1 rs2) s rd (if (s.readX rs1).toInt < (s.readX rs2).toInt then 1#64 else 0#64) ∧
    decode (0b0000000#7 ++ rs2.idx ++ rs1.idx ++ 0b011#3 ++ rd.idx ++ 0b0110011#7) = .ok (.sltu rd rs1 rs2) ∧
    CompletesWriting (.sltu rd rs1 rs2) s rd (if (s.readX rs1).toNat < (s.readX rs2).toNat then 1#64 else 0#64)

/-- O21. R139, R142, R143. -/
def Obligations.LogicRegisters : Prop :=
  ∀ (s : State) (rd rs1 rs2 : XReg),
    decode (0b0000000#7 ++ rs2.idx ++ rs1.idx ++ 0b100#3 ++ rd.idx ++ 0b0110011#7) = .ok (.xor rd rs1 rs2) ∧
    CompletesWriting (.xor rd rs1 rs2) s rd (s.readX rs1 ^^^ s.readX rs2) ∧
    decode (0b0000000#7 ++ rs2.idx ++ rs1.idx ++ 0b110#3 ++ rd.idx ++ 0b0110011#7) = .ok (.or rd rs1 rs2) ∧
    CompletesWriting (.or rd rs1 rs2) s rd (s.readX rs1 ||| s.readX rs2) ∧
    decode (0b0000000#7 ++ rs2.idx ++ rs1.idx ++ 0b111#3 ++ rd.idx ++ 0b0110011#7) = .ok (.and rd rs1 rs2) ∧
    CompletesWriting (.and rd rs1 rs2) s rd (s.readX rs1 &&& s.readX rs2)

/-- O22. R136, R140, R141. -/
def Obligations.ShiftRegisters : Prop :=
  ∀ (s : State) (rd rs1 rs2 : XReg),
    decode (0b0000000#7 ++ rs2.idx ++ rs1.idx ++ 0b001#3 ++ rd.idx ++ 0b0110011#7) = .ok (.sll rd rs1 rs2) ∧
    CompletesWriting (.sll rd rs1 rs2) s rd (s.readX rs1 <<< ((s.readX rs2).toNat % 64)) ∧
    decode (0b0000000#7 ++ rs2.idx ++ rs1.idx ++ 0b101#3 ++ rd.idx ++ 0b0110011#7) = .ok (.srl rd rs1 rs2) ∧
    CompletesWriting (.srl rd rs1 rs2) s rd (s.readX rs1 >>> ((s.readX rs2).toNat % 64)) ∧
    decode (0b0100000#7 ++ rs2.idx ++ rs1.idx ++ 0b101#3 ++ rd.idx ++ 0b0110011#7) = .ok (.sra rd rs1 rs2) ∧
    CompletesWriting (.sra rd rs1 rs2) s rd ((s.readX rs1).sshiftRight ((s.readX rs2).toNat % 64))

/-- O23. R144 to R147. -/
def Obligations.WordImmediates : Prop :=
  ∀ (s : State) (rd rs1 : XReg) (imm12 : BitVec 12) (shamt : BitVec 5) (imm : Word),
    decode (imm12 ++ rs1.idx ++ 0b000#3 ++ rd.idx ++ 0b0011011#7) = .ok (.addiw rd rs1 (imm12.signExtend 64)) ∧
    CompletesWriting (.addiw rd rs1 imm) s rd (((s.readX rs1 + imm).setWidth 32).signExtend 64) ∧
    decode (0b0000000#7 ++ shamt ++ rs1.idx ++ 0b001#3 ++ rd.idx ++ 0b0011011#7) = .ok (.slliw rd rs1 shamt) ∧
    CompletesWriting (.slliw rd rs1 shamt) s rd (((s.readX rs1).setWidth 32 <<< shamt.toNat).signExtend 64) ∧
    decode (0b0000000#7 ++ shamt ++ rs1.idx ++ 0b101#3 ++ rd.idx ++ 0b0011011#7) = .ok (.srliw rd rs1 shamt) ∧
    CompletesWriting (.srliw rd rs1 shamt) s rd (((s.readX rs1).setWidth 32 >>> shamt.toNat).signExtend 64) ∧
    decode (0b0100000#7 ++ shamt ++ rs1.idx ++ 0b101#3 ++ rd.idx ++ 0b0011011#7) = .ok (.sraiw rd rs1 shamt) ∧
    CompletesWriting (.sraiw rd rs1 shamt) s rd ((((s.readX rs1).setWidth 32).sshiftRight shamt.toNat).signExtend 64) ∧
    (∃ fields, decode (0b0000001#7 ++ shamt ++ rs1.idx ++ 0b001#3 ++ rd.idx ++ 0b0011011#7) =
      .error (.noVariant 0b0011011#7 fields))

/-- O24. R148, R149, R150, R151, R152. -/
def Obligations.WordRegisters : Prop :=
  ∀ (s : State) (rd rs1 rs2 : XReg),
    decode (0b0000000#7 ++ rs2.idx ++ rs1.idx ++ 0b000#3 ++ rd.idx ++ 0b0111011#7) = .ok (.addw rd rs1 rs2) ∧
    CompletesWriting (.addw rd rs1 rs2) s rd (((s.readX rs1 + s.readX rs2).setWidth 32).signExtend 64) ∧
    decode (0b0100000#7 ++ rs2.idx ++ rs1.idx ++ 0b000#3 ++ rd.idx ++ 0b0111011#7) = .ok (.subw rd rs1 rs2) ∧
    CompletesWriting (.subw rd rs1 rs2) s rd (((s.readX rs1 - s.readX rs2).setWidth 32).signExtend 64) ∧
    decode (0b0000000#7 ++ rs2.idx ++ rs1.idx ++ 0b001#3 ++ rd.idx ++ 0b0111011#7) = .ok (.sllw rd rs1 rs2) ∧
    CompletesWriting (.sllw rd rs1 rs2) s rd (((s.readX rs1).setWidth 32 <<< ((s.readX rs2).toNat % 32)).signExtend 64) ∧
    decode (0b0000000#7 ++ rs2.idx ++ rs1.idx ++ 0b101#3 ++ rd.idx ++ 0b0111011#7) = .ok (.srlw rd rs1 rs2) ∧
    CompletesWriting (.srlw rd rs1 rs2) s rd (((s.readX rs1).setWidth 32 >>> ((s.readX rs2).toNat % 32)).signExtend 64) ∧
    decode (0b0100000#7 ++ rs2.idx ++ rs1.idx ++ 0b101#3 ++ rd.idx ++ 0b0111011#7) = .ok (.sraw rd rs1 rs2) ∧
    CompletesWriting (.sraw rd rs1 rs2) s rd ((((s.readX rs1).setWidth 32).sshiftRight ((s.readX rs2).toNat % 32)).signExtend 64)

/-- O25. R153 and R154; clearing bit 0 is written as twice the half. -/
def Obligations.Jumps : Prop :=
  ∀ (s : State) (rd rs1 : XReg) (b20 b11 : BitVec 1) (b10_1 : BitVec 10) (b19_12 : BitVec 8) (imm12 : BitVec 12) (imm : Word),
    decode (b20 ++ b10_1 ++ b11 ++ b19_12 ++ rd.idx ++ 0b1101111#7) =
      .ok (.jal rd ((b20 ++ b19_12 ++ b11 ++ b10_1 ++ 0#1).signExtend 64)) ∧
    (∃ t, exec (.jal rd imm) s = .next t ∧ OnlyRegister s t rd (s.pc + 4#64) (s.pc + imm)) ∧
    decode (imm12 ++ rs1.idx ++ 0b000#3 ++ rd.idx ++ 0b1100111#7) = .ok (.jalr rd rs1 (imm12.signExtend 64)) ∧
    (∃ t, exec (.jalr rd rs1 imm) s = .next t ∧
      OnlyRegister s t rd (s.pc + 4#64) (BitVec.ofNat 64 (2 * ((s.readX rs1 + imm).toNat / 2))))

/-- O26. R155 to R160. -/
def Obligations.Branches : Prop :=
  ∀ (s : State) (rs1 rs2 : XReg) (b12 b11 : BitVec 1) (b10_5 : BitVec 6) (b4_1 : BitVec 4) (imm : Word),
    decode (b12 ++ b10_5 ++ rs2.idx ++ rs1.idx ++ 0b000#3 ++ b4_1 ++ b11 ++ 0b1100011#7) =
      .ok (.beq rs1 rs2 ((b12 ++ b11 ++ b10_5 ++ b4_1 ++ 0#1).signExtend 64)) ∧
    CompletesAt (.beq rs1 rs2 imm) s (if s.readX rs1 = s.readX rs2 then s.pc + imm else s.pc + 4#64) ∧
    decode (b12 ++ b10_5 ++ rs2.idx ++ rs1.idx ++ 0b001#3 ++ b4_1 ++ b11 ++ 0b1100011#7) =
      .ok (.bne rs1 rs2 ((b12 ++ b11 ++ b10_5 ++ b4_1 ++ 0#1).signExtend 64)) ∧
    CompletesAt (.bne rs1 rs2 imm) s (if s.readX rs1 ≠ s.readX rs2 then s.pc + imm else s.pc + 4#64) ∧
    decode (b12 ++ b10_5 ++ rs2.idx ++ rs1.idx ++ 0b100#3 ++ b4_1 ++ b11 ++ 0b1100011#7) =
      .ok (.blt rs1 rs2 ((b12 ++ b11 ++ b10_5 ++ b4_1 ++ 0#1).signExtend 64)) ∧
    CompletesAt (.blt rs1 rs2 imm) s (if (s.readX rs1).toInt < (s.readX rs2).toInt then s.pc + imm else s.pc + 4#64) ∧
    decode (b12 ++ b10_5 ++ rs2.idx ++ rs1.idx ++ 0b101#3 ++ b4_1 ++ b11 ++ 0b1100011#7) =
      .ok (.bge rs1 rs2 ((b12 ++ b11 ++ b10_5 ++ b4_1 ++ 0#1).signExtend 64)) ∧
    CompletesAt (.bge rs1 rs2 imm) s (if (s.readX rs1).toInt ≥ (s.readX rs2).toInt then s.pc + imm else s.pc + 4#64) ∧
    decode (b12 ++ b10_5 ++ rs2.idx ++ rs1.idx ++ 0b110#3 ++ b4_1 ++ b11 ++ 0b1100011#7) =
      .ok (.bltu rs1 rs2 ((b12 ++ b11 ++ b10_5 ++ b4_1 ++ 0#1).signExtend 64)) ∧
    CompletesAt (.bltu rs1 rs2 imm) s (if (s.readX rs1).toNat < (s.readX rs2).toNat then s.pc + imm else s.pc + 4#64) ∧
    decode (b12 ++ b10_5 ++ rs2.idx ++ rs1.idx ++ 0b111#3 ++ b4_1 ++ b11 ++ 0b1100011#7) =
      .ok (.bgeu rs1 rs2 ((b12 ++ b11 ++ b10_5 ++ b4_1 ++ 0#1).signExtend 64)) ∧
    CompletesAt (.bgeu rs1 rs2 imm) s (if (s.readX rs1).toNat ≥ (s.readX rs2).toNat then s.pc + imm else s.pc + 4#64)

/-- O27. R161 to R167. -/
def Obligations.Loads : Prop :=
  ∀ (s : State) (rd rs1 : XReg) (imm12 : BitVec 12) (imm : Word),
    decode (imm12 ++ rs1.idx ++ 0b000#3 ++ rd.idx ++ 0b0000011#7) = .ok (.lb rd rs1 (imm12.signExtend 64)) ∧
    LoadsAs (.lb rd rs1 imm) s rd (s.readX rs1 + imm) 1 ((s.byteAt (s.readX rs1 + imm).toNat).signExtend 64)
      (fun u => (u.setWidth 8).signExtend 64) ∧
    decode (imm12 ++ rs1.idx ++ 0b001#3 ++ rd.idx ++ 0b0000011#7) = .ok (.lh rd rs1 (imm12.signExtend 64)) ∧
    LoadsAs (.lh rd rs1 imm) s rd (s.readX rs1 + imm) 2 ((s.halfAt (s.readX rs1 + imm).toNat).signExtend 64)
      (fun u => (u.setWidth 16).signExtend 64) ∧
    decode (imm12 ++ rs1.idx ++ 0b010#3 ++ rd.idx ++ 0b0000011#7) = .ok (.lw rd rs1 (imm12.signExtend 64)) ∧
    LoadsAs (.lw rd rs1 imm) s rd (s.readX rs1 + imm) 4 ((s.wordAt (s.readX rs1 + imm).toNat).signExtend 64)
      (fun u => (u.setWidth 32).signExtend 64) ∧
    decode (imm12 ++ rs1.idx ++ 0b011#3 ++ rd.idx ++ 0b0000011#7) = .ok (.ld rd rs1 (imm12.signExtend 64)) ∧
    LoadsAs (.ld rd rs1 imm) s rd (s.readX rs1 + imm) 8 (s.doubleAt (s.readX rs1 + imm).toNat)
      (fun u => u) ∧
    decode (imm12 ++ rs1.idx ++ 0b100#3 ++ rd.idx ++ 0b0000011#7) = .ok (.lbu rd rs1 (imm12.signExtend 64)) ∧
    LoadsAs (.lbu rd rs1 imm) s rd (s.readX rs1 + imm) 1 ((s.byteAt (s.readX rs1 + imm).toNat).setWidth 64)
      (fun u => (u.setWidth 8).setWidth 64) ∧
    decode (imm12 ++ rs1.idx ++ 0b101#3 ++ rd.idx ++ 0b0000011#7) = .ok (.lhu rd rs1 (imm12.signExtend 64)) ∧
    LoadsAs (.lhu rd rs1 imm) s rd (s.readX rs1 + imm) 2 ((s.halfAt (s.readX rs1 + imm).toNat).setWidth 64)
      (fun u => (u.setWidth 16).setWidth 64) ∧
    decode (imm12 ++ rs1.idx ++ 0b110#3 ++ rd.idx ++ 0b0000011#7) = .ok (.lwu rd rs1 (imm12.signExtend 64)) ∧
    LoadsAs (.lwu rd rs1 imm) s rd (s.readX rs1 + imm) 4 ((s.wordAt (s.readX rs1 + imm).toNat).setWidth 64)
      (fun u => (u.setWidth 32).setWidth 64)

/-- O28. R168 to R171; the stored address is the meaning's own, x[rs1] + imm. -/
def Obligations.Stores : Prop :=
  ∀ (s : State) (rs1 rs2 : XReg) (hi7 : BitVec 7) (lo5 : BitVec 5) (imm : Word),
    decode (hi7 ++ rs2.idx ++ rs1.idx ++ 0b000#3 ++ lo5 ++ 0b0100011#7) = .ok (.sb rs1 rs2 ((hi7 ++ lo5).signExtend 64)) ∧
    StoresAs (.sb rs1 rs2 imm) s (s.readX rs1 + imm) 1 (s.readX rs2) ∧
    decode (hi7 ++ rs2.idx ++ rs1.idx ++ 0b001#3 ++ lo5 ++ 0b0100011#7) = .ok (.sh rs1 rs2 ((hi7 ++ lo5).signExtend 64)) ∧
    StoresAs (.sh rs1 rs2 imm) s (s.readX rs1 + imm) 2 (s.readX rs2) ∧
    decode (hi7 ++ rs2.idx ++ rs1.idx ++ 0b010#3 ++ lo5 ++ 0b0100011#7) = .ok (.sw rs1 rs2 ((hi7 ++ lo5).signExtend 64)) ∧
    StoresAs (.sw rs1 rs2 imm) s (s.readX rs1 + imm) 4 (s.readX rs2) ∧
    decode (hi7 ++ rs2.idx ++ rs1.idx ++ 0b011#3 ++ lo5 ++ 0b0100011#7) = .ok (.sd rs1 rs2 ((hi7 ++ lo5).signExtend 64)) ∧
    StoresAs (.sd rs1 rs2 imm) s (s.readX rs1 + imm) 8 (s.readX rs2)

/-- O29. R172 to R176. -/
def Obligations.FencesAndEnvironment : Prop :=
  ∀ (s : State) (fm pred succ : BitVec 4) (rs1 rd : XReg) (imm12 : BitVec 12) (imm : Word),
    decode (fm ++ pred ++ succ ++ rs1.idx ++ 0b000#3 ++ rd.idx ++ 0b0001111#7) =
      (if fm ++ pred ++ succ ++ rs1.idx ++ 0b000#3 ++ rd.idx ++ 0b0001111#7 = 0x0100000F#32 then .ok .pause
        else .ok (.fence fm pred succ rs1 rd)) ∧
    (∃ imm', decode (imm12 ++ rs1.idx ++ 0b001#3 ++ rd.idx ++ 0b0001111#7) = .ok (.fenceI rd rs1 imm')) ∧
    decode 0x00000073#32 = .ok .ecall ∧ decode 0x00100073#32 = .ok .ebreak ∧
    CompletesAt (.fence fm pred succ rs1 rd) s (s.pc + 4#64) ∧ CompletesAt .pause s (s.pc + 4#64) ∧
    CompletesAt (.fenceI rd rs1 imm) s (s.pc + 4#64) ∧ CompletesAt .ecall s (s.pc + 4#64) ∧
    CompletesAt .ebreak s (s.pc + 4#64)

/-- O30. R177, R178, R179, R180, R185. -/
def Obligations.Multiplies : Prop :=
  ∀ (s : State) (rd rs1 rs2 : XReg),
    decode (0b0000001#7 ++ rs2.idx ++ rs1.idx ++ 0b000#3 ++ rd.idx ++ 0b0110011#7) = .ok (.mul rd rs1 rs2) ∧
    MultipliesAs (.mul rd rs1 rs2) s rd
      (s.readX rs1 * s.readX rs2) ∧
    decode (0b0000001#7 ++ rs2.idx ++ rs1.idx ++ 0b001#3 ++ rd.idx ++ 0b0110011#7) = .ok (.mulh rd rs1 rs2) ∧
    MultipliesAs (.mulh rd rs1 rs2) s rd
      (((s.readX rs1).signExtend 128 * (s.readX rs2).signExtend 128).extractLsb' 64 64) ∧
    decode (0b0000001#7 ++ rs2.idx ++ rs1.idx ++ 0b010#3 ++ rd.idx ++ 0b0110011#7) = .ok (.mulhsu rd rs1 rs2) ∧
    MultipliesAs (.mulhsu rd rs1 rs2) s rd
      (((s.readX rs1).signExtend 128 * (s.readX rs2).setWidth 128).extractLsb' 64 64) ∧
    decode (0b0000001#7 ++ rs2.idx ++ rs1.idx ++ 0b011#3 ++ rd.idx ++ 0b0110011#7) = .ok (.mulhu rd rs1 rs2) ∧
    MultipliesAs (.mulhu rd rs1 rs2) s rd
      (((s.readX rs1).setWidth 128 * (s.readX rs2).setWidth 128).extractLsb' 64 64) ∧
    decode (0b0000001#7 ++ rs2.idx ++ rs1.idx ++ 0b000#3 ++ rd.idx ++ 0b0111011#7) = .ok (.mulw rd rs1 rs2) ∧
    MultipliesAs (.mulw rd rs1 rs2) s rd
      (((s.readX rs1).setWidth 32 * (s.readX rs2).setWidth 32).signExtend 64)

/-- O31. R181, R182, R186, R187. -/
def Obligations.Divides : Prop :=
  ∀ (s : State) (rd rs1 rs2 : XReg),
    decode (0b0000001#7 ++ rs2.idx ++ rs1.idx ++ 0b100#3 ++ rd.idx ++ 0b0110011#7) = .ok (.div rd rs1 rs2) ∧
    MultipliesAs (.div rd rs1 rs2) s rd
      (if s.readX rs2 = 0#64 then 0xFFFFFFFFFFFFFFFF#64
        else if s.readX rs1 = 0x8000000000000000#64 ∧ s.readX rs2 = 0xFFFFFFFFFFFFFFFF#64 then 0x8000000000000000#64
        else BitVec.ofInt 64 ((s.readX rs1).toInt.tdiv (s.readX rs2).toInt)) ∧
    decode (0b0000001#7 ++ rs2.idx ++ rs1.idx ++ 0b101#3 ++ rd.idx ++ 0b0110011#7) = .ok (.divu rd rs1 rs2) ∧
    MultipliesAs (.divu rd rs1 rs2) s rd
      (if s.readX rs2 = 0#64 then 0xFFFFFFFFFFFFFFFF#64 else BitVec.ofNat 64 ((s.readX rs1).toNat / (s.readX rs2).toNat)) ∧
    decode (0b0000001#7 ++ rs2.idx ++ rs1.idx ++ 0b100#3 ++ rd.idx ++ 0b0111011#7) = .ok (.divw rd rs1 rs2) ∧
    MultipliesAs (.divw rd rs1 rs2) s rd
      (if (s.readX rs2).setWidth 32 = 0#32 then 0xFFFFFFFFFFFFFFFF#64
        else if (s.readX rs1).setWidth 32 = 0x80000000#32 ∧ (s.readX rs2).setWidth 32 = 0xFFFFFFFF#32 then 0xFFFFFFFF80000000#64
        else (BitVec.ofInt 32 (((s.readX rs1).setWidth 32).toInt.tdiv ((s.readX rs2).setWidth 32).toInt)).signExtend 64) ∧
    decode (0b0000001#7 ++ rs2.idx ++ rs1.idx ++ 0b101#3 ++ rd.idx ++ 0b0111011#7) = .ok (.divuw rd rs1 rs2) ∧
    MultipliesAs (.divuw rd rs1 rs2) s rd
      (if (s.readX rs2).setWidth 32 = 0#32 then 0xFFFFFFFFFFFFFFFF#64
        else (BitVec.ofNat 32 (((s.readX rs1).setWidth 32).toNat / ((s.readX rs2).setWidth 32).toNat)).signExtend 64)

/-- O32. R183, R184, R188, R189. -/
def Obligations.Remainders : Prop :=
  ∀ (s : State) (rd rs1 rs2 : XReg),
    decode (0b0000001#7 ++ rs2.idx ++ rs1.idx ++ 0b110#3 ++ rd.idx ++ 0b0110011#7) = .ok (.rem rd rs1 rs2) ∧
    MultipliesAs (.rem rd rs1 rs2) s rd
      (if s.readX rs2 = 0#64 then s.readX rs1
        else if s.readX rs1 = 0x8000000000000000#64 ∧ s.readX rs2 = 0xFFFFFFFFFFFFFFFF#64 then 0#64
        else BitVec.ofInt 64 ((s.readX rs1).toInt - (s.readX rs2).toInt * (s.readX rs1).toInt.tdiv (s.readX rs2).toInt)) ∧
    decode (0b0000001#7 ++ rs2.idx ++ rs1.idx ++ 0b111#3 ++ rd.idx ++ 0b0110011#7) = .ok (.remu rd rs1 rs2) ∧
    MultipliesAs (.remu rd rs1 rs2) s rd
      (if s.readX rs2 = 0#64 then s.readX rs1 else BitVec.ofNat 64 ((s.readX rs1).toNat % (s.readX rs2).toNat)) ∧
    decode (0b0000001#7 ++ rs2.idx ++ rs1.idx ++ 0b110#3 ++ rd.idx ++ 0b0111011#7) = .ok (.remw rd rs1 rs2) ∧
    MultipliesAs (.remw rd rs1 rs2) s rd
      (if (s.readX rs2).setWidth 32 = 0#32 then ((s.readX rs1).setWidth 32).signExtend 64
        else if (s.readX rs1).setWidth 32 = 0x80000000#32 ∧ (s.readX rs2).setWidth 32 = 0xFFFFFFFF#32 then 0#64
        else (BitVec.ofInt 32 (((s.readX rs1).setWidth 32).toInt -
          ((s.readX rs2).setWidth 32).toInt * ((s.readX rs1).setWidth 32).toInt.tdiv ((s.readX rs2).setWidth 32).toInt)).signExtend 64) ∧
    decode (0b0000001#7 ++ rs2.idx ++ rs1.idx ++ 0b111#3 ++ rd.idx ++ 0b0111011#7) = .ok (.remuw rd rs1 rs2) ∧
    MultipliesAs (.remuw rd rs1 rs2) s rd
      (if (s.readX rs2).setWidth 32 = 0#32 then ((s.readX rs1).setWidth 32).signExtend 64
        else (BitVec.ofNat 32 (((s.readX rs1).setWidth 32).toNat % ((s.readX rs2).setWidth 32).toNat)).signExtend 64)

/-- O33. R190 to R193. -/
def Obligations.LoadReservedStoreConditional : Prop :=
  ∀ (s : State) (rd rs1 rs2 : XReg) (aq rl : Bool),
    decode (0b00010#5 ++ BitVec.ofBool aq ++ BitVec.ofBool rl ++ 0b00000#5 ++ rs1.idx ++ 0b010#3 ++ rd.idx ++ 0b0101111#7) =
      .ok (.lrW rd rs1 aq rl) ∧
    UnderExecA (.lrW rd rs1 aq rl) s (LoadsAs (.lrW rd rs1 aq rl) s rd (s.readX rs1) 4 ((s.wordAt (s.readX rs1).toNat).signExtend 64)
      (fun u => (u.setWidth 32).signExtend 64)) ∧
    decode (0b00010#5 ++ BitVec.ofBool aq ++ BitVec.ofBool rl ++ 0b00000#5 ++ rs1.idx ++ 0b011#3 ++ rd.idx ++ 0b0101111#7) =
      .ok (.lrD rd rs1 aq rl) ∧
    UnderExecA (.lrD rd rs1 aq rl) s (LoadsAs (.lrD rd rs1 aq rl) s rd (s.readX rs1) 8 (s.doubleAt (s.readX rs1).toNat)
      (fun u => u)) ∧
    decode (0b00011#5 ++ BitVec.ofBool aq ++ BitVec.ofBool rl ++ rs2.idx ++ rs1.idx ++ 0b010#3 ++ rd.idx ++ 0b0101111#7) =
      .ok (.scW rd rs1 rs2 aq rl) ∧
    UnderExecA (.scW rd rs1 rs2 aq rl) s
      (StoresConditionallyAs (.scW rd rs1 rs2 aq rl) s rd (s.readX rs1) 4 (s.readX rs2)) ∧
    decode (0b00011#5 ++ BitVec.ofBool aq ++ BitVec.ofBool rl ++ rs2.idx ++ rs1.idx ++ 0b011#3 ++ rd.idx ++ 0b0101111#7) =
      .ok (.scD rd rs1 rs2 aq rl) ∧
    UnderExecA (.scD rd rs1 rs2 aq rl) s
      (StoresConditionallyAs (.scD rd rs1 rs2 aq rl) s rd (s.readX rs1) 8 (s.readX rs2)) ∧
    (rs2.idx ≠ 0b00000#5 → ∀ funct3 ∈ [0b010#3, 0b011#3], ∃ fields,
      decode (0b00010#5 ++ BitVec.ofBool aq ++ BitVec.ofBool rl ++ rs2.idx ++ rs1.idx ++ funct3 ++ rd.idx ++ 0b0101111#7) =
        .error (.noVariant 0b0101111#7 fields))

/-- O34. R194 to R202. -/
def Obligations.AmoWords : Prop :=
  ∀ (s : State) (rd rs1 rs2 : XReg) (aq rl : Bool),
    decode (0b00001#5 ++ BitVec.ofBool aq ++ BitVec.ofBool rl ++ rs2.idx ++ rs1.idx ++ 0b010#3 ++ rd.idx ++ 0b0101111#7) =
      .ok (.amoswapW rd rs1 rs2 aq rl) ∧
    UnderExecA (.amoswapW rd rs1 rs2 aq rl) s (UpdatesAs (.amoswapW rd rs1 rs2 aq rl) s rd (s.readX rs1) 4 (s.wordAt (s.readX rs1).toNat)
      (fun _ => (s.readX rs2).setWidth 32)) ∧
    decode (0b00000#5 ++ BitVec.ofBool aq ++ BitVec.ofBool rl ++ rs2.idx ++ rs1.idx ++ 0b010#3 ++ rd.idx ++ 0b0101111#7) =
      .ok (.amoaddW rd rs1 rs2 aq rl) ∧
    UnderExecA (.amoaddW rd rs1 rs2 aq rl) s (UpdatesAs (.amoaddW rd rs1 rs2 aq rl) s rd (s.readX rs1) 4 (s.wordAt (s.readX rs1).toNat)
      (fun old => old + (s.readX rs2).setWidth 32)) ∧
    decode (0b00100#5 ++ BitVec.ofBool aq ++ BitVec.ofBool rl ++ rs2.idx ++ rs1.idx ++ 0b010#3 ++ rd.idx ++ 0b0101111#7) =
      .ok (.amoxorW rd rs1 rs2 aq rl) ∧
    UnderExecA (.amoxorW rd rs1 rs2 aq rl) s (UpdatesAs (.amoxorW rd rs1 rs2 aq rl) s rd (s.readX rs1) 4 (s.wordAt (s.readX rs1).toNat)
      (fun old => old ^^^ (s.readX rs2).setWidth 32)) ∧
    decode (0b01100#5 ++ BitVec.ofBool aq ++ BitVec.ofBool rl ++ rs2.idx ++ rs1.idx ++ 0b010#3 ++ rd.idx ++ 0b0101111#7) =
      .ok (.amoandW rd rs1 rs2 aq rl) ∧
    UnderExecA (.amoandW rd rs1 rs2 aq rl) s (UpdatesAs (.amoandW rd rs1 rs2 aq rl) s rd (s.readX rs1) 4 (s.wordAt (s.readX rs1).toNat)
      (fun old => old &&& (s.readX rs2).setWidth 32)) ∧
    decode (0b01000#5 ++ BitVec.ofBool aq ++ BitVec.ofBool rl ++ rs2.idx ++ rs1.idx ++ 0b010#3 ++ rd.idx ++ 0b0101111#7) =
      .ok (.amoorW rd rs1 rs2 aq rl) ∧
    UnderExecA (.amoorW rd rs1 rs2 aq rl) s (UpdatesAs (.amoorW rd rs1 rs2 aq rl) s rd (s.readX rs1) 4 (s.wordAt (s.readX rs1).toNat)
      (fun old => old ||| (s.readX rs2).setWidth 32)) ∧
    decode (0b10000#5 ++ BitVec.ofBool aq ++ BitVec.ofBool rl ++ rs2.idx ++ rs1.idx ++ 0b010#3 ++ rd.idx ++ 0b0101111#7) =
      .ok (.amominW rd rs1 rs2 aq rl) ∧
    UnderExecA (.amominW rd rs1 rs2 aq rl) s (UpdatesAs (.amominW rd rs1 rs2 aq rl) s rd (s.readX rs1) 4 (s.wordAt (s.readX rs1).toNat)
      (fun old => if old.toInt ≤ ((s.readX rs2).setWidth 32).toInt then old else (s.readX rs2).setWidth 32)) ∧
    decode (0b10100#5 ++ BitVec.ofBool aq ++ BitVec.ofBool rl ++ rs2.idx ++ rs1.idx ++ 0b010#3 ++ rd.idx ++ 0b0101111#7) =
      .ok (.amomaxW rd rs1 rs2 aq rl) ∧
    UnderExecA (.amomaxW rd rs1 rs2 aq rl) s (UpdatesAs (.amomaxW rd rs1 rs2 aq rl) s rd (s.readX rs1) 4 (s.wordAt (s.readX rs1).toNat)
      (fun old => if old.toInt ≥ ((s.readX rs2).setWidth 32).toInt then old else (s.readX rs2).setWidth 32)) ∧
    decode (0b11000#5 ++ BitVec.ofBool aq ++ BitVec.ofBool rl ++ rs2.idx ++ rs1.idx ++ 0b010#3 ++ rd.idx ++ 0b0101111#7) =
      .ok (.amominuW rd rs1 rs2 aq rl) ∧
    UnderExecA (.amominuW rd rs1 rs2 aq rl) s (UpdatesAs (.amominuW rd rs1 rs2 aq rl) s rd (s.readX rs1) 4 (s.wordAt (s.readX rs1).toNat)
      (fun old => if old.toNat ≤ ((s.readX rs2).setWidth 32).toNat then old else (s.readX rs2).setWidth 32)) ∧
    decode (0b11100#5 ++ BitVec.ofBool aq ++ BitVec.ofBool rl ++ rs2.idx ++ rs1.idx ++ 0b010#3 ++ rd.idx ++ 0b0101111#7) =
      .ok (.amomaxuW rd rs1 rs2 aq rl) ∧
    UnderExecA (.amomaxuW rd rs1 rs2 aq rl) s (UpdatesAs (.amomaxuW rd rs1 rs2 aq rl) s rd (s.readX rs1) 4 (s.wordAt (s.readX rs1).toNat)
      (fun old => if old.toNat ≥ ((s.readX rs2).setWidth 32).toNat then old else (s.readX rs2).setWidth 32))

/-- O35. R203 to R211. -/
def Obligations.AmoDoublewords : Prop :=
  ∀ (s : State) (rd rs1 rs2 : XReg) (aq rl : Bool),
    decode (0b00001#5 ++ BitVec.ofBool aq ++ BitVec.ofBool rl ++ rs2.idx ++ rs1.idx ++ 0b011#3 ++ rd.idx ++ 0b0101111#7) =
      .ok (.amoswapD rd rs1 rs2 aq rl) ∧
    UnderExecA (.amoswapD rd rs1 rs2 aq rl) s (UpdatesAs (.amoswapD rd rs1 rs2 aq rl) s rd (s.readX rs1) 8 (s.doubleAt (s.readX rs1).toNat)
      (fun _ => s.readX rs2)) ∧
    decode (0b00000#5 ++ BitVec.ofBool aq ++ BitVec.ofBool rl ++ rs2.idx ++ rs1.idx ++ 0b011#3 ++ rd.idx ++ 0b0101111#7) =
      .ok (.amoaddD rd rs1 rs2 aq rl) ∧
    UnderExecA (.amoaddD rd rs1 rs2 aq rl) s (UpdatesAs (.amoaddD rd rs1 rs2 aq rl) s rd (s.readX rs1) 8 (s.doubleAt (s.readX rs1).toNat)
      (fun old => old + s.readX rs2)) ∧
    decode (0b00100#5 ++ BitVec.ofBool aq ++ BitVec.ofBool rl ++ rs2.idx ++ rs1.idx ++ 0b011#3 ++ rd.idx ++ 0b0101111#7) =
      .ok (.amoxorD rd rs1 rs2 aq rl) ∧
    UnderExecA (.amoxorD rd rs1 rs2 aq rl) s (UpdatesAs (.amoxorD rd rs1 rs2 aq rl) s rd (s.readX rs1) 8 (s.doubleAt (s.readX rs1).toNat)
      (fun old => old ^^^ s.readX rs2)) ∧
    decode (0b01100#5 ++ BitVec.ofBool aq ++ BitVec.ofBool rl ++ rs2.idx ++ rs1.idx ++ 0b011#3 ++ rd.idx ++ 0b0101111#7) =
      .ok (.amoandD rd rs1 rs2 aq rl) ∧
    UnderExecA (.amoandD rd rs1 rs2 aq rl) s (UpdatesAs (.amoandD rd rs1 rs2 aq rl) s rd (s.readX rs1) 8 (s.doubleAt (s.readX rs1).toNat)
      (fun old => old &&& s.readX rs2)) ∧
    decode (0b01000#5 ++ BitVec.ofBool aq ++ BitVec.ofBool rl ++ rs2.idx ++ rs1.idx ++ 0b011#3 ++ rd.idx ++ 0b0101111#7) =
      .ok (.amoorD rd rs1 rs2 aq rl) ∧
    UnderExecA (.amoorD rd rs1 rs2 aq rl) s (UpdatesAs (.amoorD rd rs1 rs2 aq rl) s rd (s.readX rs1) 8 (s.doubleAt (s.readX rs1).toNat)
      (fun old => old ||| s.readX rs2)) ∧
    decode (0b10000#5 ++ BitVec.ofBool aq ++ BitVec.ofBool rl ++ rs2.idx ++ rs1.idx ++ 0b011#3 ++ rd.idx ++ 0b0101111#7) =
      .ok (.amominD rd rs1 rs2 aq rl) ∧
    UnderExecA (.amominD rd rs1 rs2 aq rl) s (UpdatesAs (.amominD rd rs1 rs2 aq rl) s rd (s.readX rs1) 8 (s.doubleAt (s.readX rs1).toNat)
      (fun old => if old.toInt ≤ (s.readX rs2).toInt then old else s.readX rs2)) ∧
    decode (0b10100#5 ++ BitVec.ofBool aq ++ BitVec.ofBool rl ++ rs2.idx ++ rs1.idx ++ 0b011#3 ++ rd.idx ++ 0b0101111#7) =
      .ok (.amomaxD rd rs1 rs2 aq rl) ∧
    UnderExecA (.amomaxD rd rs1 rs2 aq rl) s (UpdatesAs (.amomaxD rd rs1 rs2 aq rl) s rd (s.readX rs1) 8 (s.doubleAt (s.readX rs1).toNat)
      (fun old => if old.toInt ≥ (s.readX rs2).toInt then old else s.readX rs2)) ∧
    decode (0b11000#5 ++ BitVec.ofBool aq ++ BitVec.ofBool rl ++ rs2.idx ++ rs1.idx ++ 0b011#3 ++ rd.idx ++ 0b0101111#7) =
      .ok (.amominuD rd rs1 rs2 aq rl) ∧
    UnderExecA (.amominuD rd rs1 rs2 aq rl) s (UpdatesAs (.amominuD rd rs1 rs2 aq rl) s rd (s.readX rs1) 8 (s.doubleAt (s.readX rs1).toNat)
      (fun old => if old.toNat ≤ (s.readX rs2).toNat then old else s.readX rs2)) ∧
    decode (0b11100#5 ++ BitVec.ofBool aq ++ BitVec.ofBool rl ++ rs2.idx ++ rs1.idx ++ 0b011#3 ++ rd.idx ++ 0b0101111#7) =
      .ok (.amomaxuD rd rs1 rs2 aq rl) ∧
    UnderExecA (.amomaxuD rd rs1 rs2 aq rl) s (UpdatesAs (.amomaxuD rd rs1 rs2 aq rl) s rd (s.readX rs1) 8 (s.doubleAt (s.readX rs1).toNat)
      (fun old => if old.toNat ≥ (s.readX rs2).toNat then old else s.readX rs2))

/-- O36. R11: the 62 rows of 47_float.md are the rows of these opcodes; `Instr.kind` lists them. -/
def Obligations.FloatIsUnimplemented : Prop :=
  ∀ (i : Instr) (s : State),
    (i.kind = .float ↔ (opcodeOf (encode i)).toNat ∈ [0x07, 0x27, 0x43, 0x47, 0x4B, 0x4F, 0x53]) ∧
    (i.kind = .float → exec i s = .fault (.execute (.unimplemented (.instr i)))) ∧
    (i.kind ≠ .float → s.execM = .standard → s.execA = .plain → ∀ v, exec i s ≠ .fault (.execute (.unimplemented v)))

/-- O37. R121 and R50. -/
def Obligations.StepRunsDecoded : Prop :=
  (∀ (s : State) (i : Instr), InRam s s.pc.toNat 4 → decode (s.wordAt s.pc.toNat) = .ok i → step s = exec i s) ∧
  (∀ (s s' : State) (v : Word) (i : Instr), memRead s s.pc 4 = .ok (v, s') → decode (v.extractLsb' 0 32) = .ok i →
    step s = exec i s' ∧ s' = { s with devLog := s'.devLog })

/-- O38. R121, R278 and R281: a data-access fault is never reported as a fetch fault. -/
def Obligations.StepReportsTheFirstError : Prop :=
  ∀ s : State,
    (∀ f, memRead s s.pc 4 = .error f → step s = .fault (.device f)) ∧
    (∀ v s' d, memRead s s.pc 4 = .ok (v, s') → decode (v.extractLsb' 0 32) = .error d → step s = .fault (.decode d)) ∧
    (∀ f, step s = .fault (.device f) → memRead s s.pc 4 = .error f) ∧
    (∀ d, step s = .fault (.decode d) → ∃ v s', memRead s s.pc 4 = .ok (v, s') ∧ decode (v.extractLsb' 0 32) = .error d) ∧
    (∀ v s' i e, memRead s s.pc 4 = .ok (v, s') → decode (v.extractLsb' 0 32) = .ok i → exec i s' = .fault (.execute e) →
      step s = .fault (.execute e)) ∧
    (∀ e, step s = .fault (.execute e) → ∃ v s' i, memRead s s.pc 4 = .ok (v, s') ∧ decode (v.extractLsb' 0 32) = .ok i ∧
      exec i s' = .fault (.execute e))

/-- O39. R294. -/
def Obligations.FirstFetchAtResetPc : Prop :=
  ∀ (p : Platform) (s : State), construct p = .ok s →
    s.pc = p.resetPc ∧ (∀ f, memRead s p.resetPc 4 = .error f → step s = .fault (.device f)) ∧
    ((∀ e ∈ busEntries p.busMap, ¬ Owns e p.resetPc.toNat) →
      step s = .fault (.device (.invalidReadAddress p.resetPc.toNat)))

/-- O40. R274's families are the constructors of `Fault`. -/
def Obligations.StepIsNeverRefused : Prop :=
  ∀ s : State, SafeStep s

/-- O41. R291. -/
def Obligations.FaultsByClass : Prop :=
  (∀ (i : Instr) (s : State),
    (i.kind = .integer ∨ i.kind = .control ∨ i.kind = .fenceSystem → ∃ t, exec i s = .next t) ∧
    (i.kind = .load ∨ i.kind = .store →
      (∃ t, exec i s = .next t) ∨ ∃ f, exec i s = .fault (.execute (.device f))) ∧
    (i.kind = .mulDiv → s.execM = .standard → ∃ t, exec i s = .next t) ∧
    (i.kind = .mulDiv → s.execM = .unimplemented → exec i s = .fault (.execute (.unimplemented (.instr i)))) ∧
    (i.kind = .atomic → s.execA = .plain →
      (∃ t, exec i s = .next t) ∨ ∃ f, exec i s = .fault (.execute (.device f))) ∧
    (i.kind = .atomic → s.execA = .unimplemented → exec i s = .fault (.execute (.unimplemented (.instr i)))) ∧
    (i.kind = .float → exec i s = .fault (.execute (.unimplemented (.instr i))))) ∧
  (∀ (w : InstrWord) (d : String) (s : State),
    executeVariant (.undefined w d) s = .fault (.execute (.unimplemented (.undefined w d)))) ∧
  (∀ w : InstrWord, (∀ i, decode w ≠ .ok i) →
    ((∃ op, decode w = .error (.noFormat op)) ∨ ∃ op fields, decode w = .error (.noVariant op fields)) ∧
    ∀ (s s' : State) (v : Word), memRead s s.pc 4 = .ok (v, s') → v.extractLsb' 0 32 = w →
      (∃ op, step s = .fault (.decode (.noFormat op))) ∨ ∃ op fields, step s = .fault (.decode (.noVariant op fields)))

/-- O42. The invariant is `State.Inv`; the canonical form and the placing of listed bytes are the model's own (log entries 5 and 9). -/
def Obligations.StepKeepsInvariant : Prop :=
  ∀ s t : State, s.Inv → step s = .next t → t.Inv

/-- O43. The reference platform is the model's choice (log entries 1 to 5), not a rule of the spec. -/
def Obligations.ResetMeetsInvariant : Prop :=
  State.reset.Inv ∧ construct Platform.reference = .ok State.reset

/-- O44. With `StepKeepsInvariant`, the invariant holds in every run of every platform. -/
def Obligations.ConstructionMeetsInvariant : Prop :=
  ∀ (p : Platform) (s : State), construct p = .ok s → s.Inv

/-- O45. R52: the premise on the pc is needed because a host may place an odd one. -/
def Obligations.PcStaysEven : Prop :=
  (∀ s t : State, s.pc.toNat % 2 = 0 → step s = .next t → t.pc.toNat % 2 = 0) ∧
  (∀ (s : State) (rd rs1 rs2 : XReg) (imm : Word),
    (∃ t, exec (.jal rd imm) s = .next t ∧ t.pc = s.pc + imm) ∧
    (∃ t, exec (.jalr rd rs1 imm) s = .next t ∧ t.pc = BitVec.ofNat 64 (2 * ((s.readX rs1 + imm).toNat / 2))) ∧
    ∀ p ∈ [(Cond.eq, Instr.beq rs1 rs2 imm), (.ne, .bne rs1 rs2 imm), (.lt, .blt rs1 rs2 imm), (.ge, .bge rs1 rs2 imm),
        (.ltu, .bltu rs1 rs2 imm), (.geu, .bgeu rs1 rs2 imm)],
      ∃ t, exec p.2 s = .next t ∧
        t.pc = if Machine.cmp p.1 (s.readX rs1) (s.readX rs2) then s.pc + imm else s.pc + 4#64) ∧
  (∀ s : State, InRam s s.pc.toNat 4 → ∃ v, memRead s s.pc 4 = .ok (v, s))

/-- O46. R24's last sentence and R37's immutable topology. -/
def Obligations.FloatRegistersAndPlatformNeverChange : Prop :=
  ∀ s t : State, step s = .next t →
    (∀ r, t.readF r = s.readF r) ∧ SamePlatform s t ∧ ∀ r : XReg, r.idx = 0#5 → t.readX r = 0#64

/-- O47. R32 and R33. -/
def Obligations.ConstructionState : Prop :=
  ∀ (p : Platform) (s : State), construct p = .ok s →
    (∀ r, s.readX r = 0#64) ∧ (∀ r, s.readF r = 0#64) ∧ s.pc = p.resetPc ∧
    s.bus = p.busMap ∧ s.execM = p.execM ∧ s.execA = p.execA

/-- O48. R295 step 2; the zero is log entry 5. -/
def Obligations.ConstructionPlacesTheImage : Prop :=
  ∀ (p : Platform) (s : State), construct p = .ok s →
    (∀ a, (∀ c ∈ p.image, c.1 ≠ a) → s.byteAt a = 0#8) ∧
    (∀ a b, p.image.Pairwise (fun c d => c.1 ≠ d.1) → (a, b) ∈ p.image → ramAt p.busMap a = true → s.byteAt a = b)

/-- O49. R38; ranges that share no address do not overlap, an empty range least of all. -/
def Obligations.OverlappingMapIsRefused : Prop :=
  ∀ p : Platform,
    (¬ (busEntries p.busMap).Pairwise (fun e e' => ¬ ∃ a, Owns e a ∧ Owns e' a) →
      construct p = .error .overlappingBusMap) ∧
    ((busEntries p.busMap).Pairwise (fun e e' => ¬ ∃ a, Owns e a ∧ Owns e' a) →
      (∀ e ∈ busEntries p.busMap, ∀ inner, e.2 ≠ .bus inner) → ∃ s, construct p = .ok s)

/-- O50. R37, and R41 for a nested bus, whose size is this one. -/
def Obligations.BusSize : Prop :=
  ∀ bus : Bus,
    (∀ e ∈ busEntries bus, e.1 + e.2.size ≤ busSize bus) ∧
    (busEntries bus ≠ [] → ∃ e ∈ busEntries bus, e.1 + e.2.size = busSize bus) ∧
    (busEntries bus = [] → busSize bus = 0)

/-- O51. R39 with its example; the address translation is R40's and R41's. -/
def Obligations.ResolveFindsTheOwner : Prop :=
  (∀ bus : Bus, busWf bus = true → ∀ a,
    (∀ e ∈ busEntries bus, Owns e a →
      resolve bus a = e.2.reach (a - e.1) ∧ ∀ e' ∈ busEntries bus, Owns e' a → e' = e) ∧
    ((∀ e ∈ busEntries bus, ¬ Owns e a) → resolve bus a = .miss a)) ∧
  (∀ rest : Bus, resolve (.ram 5 16 rest) 5 = .found (.ram 16) 0 ∧ resolve (.ram 5 16 rest) 20 = .found (.ram 16) 15) ∧
  resolve (.ram 5 16 .empty) 4 = .miss 4 ∧ resolve (.ram 5 16 .empty) 21 = .miss 21

/-- O52. R40's last but one sentence, on all four operations. -/
def Obligations.MissFaultsByDirection : Prop :=
  ∀ (s : State) (a m : Nat), resolve s.bus a = .miss m →
    (∀ n, busReadBytes s a n = .error (.invalidReadAddress m)) ∧
    (∀ bs, busWriteBytes s a bs = .error (.invalidWriteAddress m)) ∧
    (∀ n e sg, busReadInt s a n e sg = .error (.invalidReadAddress m)) ∧
    (∀ n e v, busWriteInt s a v n e = .error (.invalidWriteAddress m)) ∧
    (∀ (addr : Word) n v, addr.toNat = a →
      memRead s addr n = .error (.invalidReadAddress m) ∧ memWrite s addr n v = .error (.invalidWriteAddress m))

/-- O53. R43; which of the two codes an external device uses is a free value (log entry 7), a RAM's is D22's. -/
def Obligations.AccessPastTheEndFaults : Prop :=
  ∀ (s : State) (a loc : Nat) (d : Leaf), resolve s.bus a = .found d loc →
    (∀ n, d.size < loc + n → ∃ c, busReadBytes s a n = .error (.invalidReadAddress c) ∨
      busReadBytes s a n = .error (.invalidReadSize c)) ∧
    (∀ bs : List Byte, d.size < loc + bs.length → ∃ c, busWriteBytes s a bs = .error (.invalidWriteAddress c) ∨
      busWriteBytes s a bs = .error (.invalidWriteSize c)) ∧
    (∀ n e sg v, (n = 1 ∨ n = 2 ∨ n = 4 ∨ n = 8) → d.size < loc + n →
      (∃ c, busReadInt s a n e sg = .error (.invalidReadAddress c) ∨ busReadInt s a n e sg = .error (.invalidReadSize c)) ∧
      ∃ c, busWriteInt s a v n e = .error (.invalidWriteAddress c) ∨ busWriteInt s a v n e = .error (.invalidWriteSize c)) ∧
    (∀ size, d = .ram size →
      (∀ n, size < loc + n → busReadBytes s a n = .error (.invalidReadAddress loc)) ∧
      (∀ bs : List Byte, size < loc + bs.length → busWriteBytes s a bs = .error (.invalidWriteAddress loc)) ∧
      ∀ n e sg v, (n = 1 ∨ n = 2 ∨ n = 4 ∨ n = 8) → size < loc + n →
        busReadInt s a n e sg = .error (.invalidReadAddress loc) ∧ busWriteInt s a v n e = .error (.invalidWriteAddress loc) ∧
        ∀ addr : Word, addr.toNat = a →
          memRead s addr n = .error (.invalidReadAddress loc) ∧ memWrite s addr n v = .error (.invalidWriteAddress loc))

/-- O54. R44 for reads, bit by bit. -/
def Obligations.IntegerReadPacksBytes : Prop :=
  ∀ (s : State) (a n : Nat) (e : Endian) (sg : Bool), InRam s a n →
    (n = 1 ∨ n = 2 ∨ n = 4 ∨ n = 8 → ∃ v, busReadInt s a n e sg = .ok (v, s) ∧
      (∀ k, k < n → v.extractLsb' (8 * k) 8 = s.byteAt (match e with | .little => a + k | .big => a + n - 1 - k)) ∧
      (∀ j, 8 * n ≤ j → j < 64 → v.getLsbD j = (sg && v.getLsbD (8 * n - 1)))) ∧
    (¬ (n = 1 ∨ n = 2 ∨ n = 4 ∨ n = 8) → busReadInt s a n e sg = .error (.invalidReadSize n))

/-- O55. R44 for writes, byte by byte; the canonical form is the model's own (log entry 5). -/
def Obligations.IntegerWriteUnpacksBytes : Prop :=
  ∀ (s : State) (a n : Nat) (e : Endian) (v : Word), Memory.wf s.mem → InRam s a n →
    (n = 1 ∨ n = 2 ∨ n = 4 ∨ n = 8 → ∃ t, busWriteInt s a v n e = .ok t ∧ t = { s with mem := t.mem } ∧ Memory.wf t.mem ∧
      (∀ k, k < n → t.byteAt (match e with | .little => a + k | .big => a + n - 1 - k) = v.extractLsb' (8 * k) 8) ∧
      (∀ b, b < a ∨ a + n ≤ b → t.byteAt b = s.byteAt b)) ∧
    (¬ (n = 1 ∨ n = 2 ∨ n = 4 ∨ n = 8) → busWriteInt s a v n e = .error (.invalidWriteSize n))

/-- O56. R45; a RAM is the model's storage device. -/
def Obligations.StorageReturnsWhatWasWritten : Prop :=
  ∀ (s : State) (a : Nat), Memory.wf s.mem →
    (∀ bs : List Byte, InRam s a bs.length → ∃ t, busWriteBytes s a bs = .ok t ∧ busReadBytes t a bs.length = .ok (bs, t)) ∧
    (∀ (n : Nat) (e : Endian) (v : Word), (n = 1 ∨ n = 2 ∨ n = 4 ∨ n = 8) → InRam s a n →
      ∃ t, busWriteInt s a v n e = .ok t ∧
        busReadInt t a n e false = .ok (BitVec.ofNat 64 (v.toNat % 2 ^ (8 * n)), t))

/-- O57. R49; the first two premises are the invariant `State.Inv`, the last keeps A + k below 2^64. -/
def Obligations.MixedWidthAccess : Prop :=
  ∀ (s : State) (A v : Word), Memory.wf s.mem → busWf s.bus = true → InRam s A.toNat 8 → A.toNat + 8 ≤ 2 ^ 64 →
    ∃ t, memWrite s A 8 v = .ok t ∧
      (∀ k, k < 8 → memRead t (A + BitVec.ofNat 64 k) 1 = .ok ((v.extractLsb' (8 * k) 8).setWidth 64, t)) ∧
      memRead t (A + 2#64) 2 = .ok ((v.extractLsb' 16 16).setWidth 64, t) ∧
      memRead t (A + 4#64) 4 = .ok ((v.extractLsb' 32 32).setWidth 64, t)

/-- O58. R55, with the history of external devices (log entry 8) as what a device can see; what it answers is a free value (log entry 7). -/
def Obligations.ExternalLoadAccessesOnce : Prop :=
  ∀ (s : State) (rd rs1 : XReg) (imm : Word) (size id loc : Nat),
    resolve s.bus (s.readX rs1 + imm).toNat = .found (.external size id) loc →
    LoadsFromDevice (.lb rd rs1 imm) s rd size id loc 1 (fun u => (u.setWidth 8).signExtend 64) ∧
    LoadsFromDevice (.lh rd rs1 imm) s rd size id loc 2 (fun u => (u.setWidth 16).signExtend 64) ∧
    LoadsFromDevice (.lw rd rs1 imm) s rd size id loc 4 (fun u => (u.setWidth 32).signExtend 64) ∧
    LoadsFromDevice (.ld rd rs1 imm) s rd size id loc 8 (fun u => u) ∧
    LoadsFromDevice (.lbu rd rs1 imm) s rd size id loc 1 (fun u => (u.setWidth 8).setWidth 64) ∧
    LoadsFromDevice (.lhu rd rs1 imm) s rd size id loc 2 (fun u => (u.setWidth 16).setWidth 64) ∧
    LoadsFromDevice (.lwu rd rs1 imm) s rd size id loc 4 (fun u => (u.setWidth 32).setWidth 64) ∧
    ∀ n, (∃ f, externalRead s size id loc n = .error f) ↔
      ¬ (loc + n ≤ size ∧ Config.deviceVerdict s.devLog ⟨id, loc, .read n⟩ = .accept)

/-- O59. R297 and R60: no fence is needed, and FENCE.I changes nothing. -/
def Obligations.StoreIsSeenByTheNextFetch : Prop :=
  ∀ (s : State) (rs1 rs2 : XReg) (imm : Word), Memory.wf s.mem →
    (InRam s (s.pc + 4#64).toNat 4 → s.readX rs1 + imm = s.pc + 4#64 →
      ∃ t, exec (.sw rs1 rs2 imm) s = .next t ∧
        step t = (match decode ((s.readX rs2).extractLsb' 0 32) with
          | .ok j => exec j t
          | .error d => .fault (.decode d))) ∧
    (InRam s (s.pc + 8#64).toNat 4 → s.readX rs1 + imm = s.pc + 8#64 →
      ∃ t u, exec (.sw rs1 rs2 imm) s = .next t ∧ exec (.fenceI ⟨0#5⟩ ⟨0#5⟩ 0#64) t = .next u ∧
        step u = (match decode ((s.readX rs2).extractLsb' 0 32) with
          | .ok j => exec j u
          | .error d => .fault (.decode d)))

/-- O60. R110: hi20 and lo12 are split as its formulas say, and an offset of 0x7FFFF800 or more is out of reach. -/
def Obligations.PairsReachTheirValue : Prop :=
  ∀ (s : State) (rd : XReg) (v : BitVec 32), rd.idx ≠ 0#5 →
    (∃ t u, exec (.lui rd (hi20 v)) s = .next t ∧ exec (.addiw rd rd (lo12 v)) t = .next u ∧
      u.readX rd = v.signExtend 64) ∧
    (v.toInt < 0x7FFFF800 →
      ∃ t u, exec (.auipc rd (hi20 v)) s = .next t ∧ exec (.addi rd rd (lo12 v)) t = .next u ∧
        u.readX rd = s.pc + v.signExtend 64)
end

