-- ==== Sys2Proof/Laws/Bus.lean ====
section
/-! SUPPORT. The laws of address resolution (spec R37 to R41). -/

namespace Sys2Proof.Machine

/-- A resolved local address is inside its device (R39). -/
theorem resolve_loc_lt {b : Bus} {a : Nat} {d : Leaf} {loc : Nat} (h : resolve b a = .found d loc) : loc < d.size := by
  induction b generalizing a with
  | empty => simp [resolve] at h
  | ram base size rest ih =>
    simp only [resolve] at h
    split at h
    · rename_i hr; cases h; simp only [Leaf.size]; omega
    · exact ih h
  | external base size id rest ih =>
    simp only [resolve] at h
    split at h
    · rename_i hr; cases h; simp only [Leaf.size]; omega
    · exact ih h
  | nested base inner rest ihi ihr =>
    simp only [resolve] at h
    split at h
    · exact ihi h
    · exact ihr h

/-- An owned address is below the bus's address space size (R37). -/
theorem resolve_lt_busSize {b : Bus} {a : Nat} {d : Leaf} {loc : Nat} (h : resolve b a = .found d loc) : a < busSize b := by
  induction b generalizing a with
  | empty => simp [resolve] at h
  | ram base size rest ih =>
    simp only [resolve] at h
    simp only [busSize]
    split at h
    · rename_i hr; omega
    · have := ih h; omega
  | external base size id rest ih =>
    simp only [resolve] at h
    simp only [busSize]
    split at h
    · rename_i hr; omega
    · have := ih h; omega
  | nested base inner rest ihi ihr =>
    simp only [resolve] at h
    simp only [busSize]
    split at h
    · rename_i hr; omega
    · have := ihr h; omega

theorem not_inRange_of_disjoint {b s b' s' x : Nat} (h : rangesDisjoint b s b' s' = true) (hx : InRange b' s' x) :
    ¬ InRange b s x := by
  simp only [rangesDisjoint, Bool.or_eq_true, beq_iff_eq, decide_eq_true_eq] at h
  unfold InRange at *
  omega

/-- A range clear of a bus map holds no address the map owns. -/
theorem not_inRange_of_clear {b : Bus} {lo sz a : Nat} {d : Leaf} {loc : Nat} (hc : rangeClear lo sz b = true)
    (h : resolve b a = .found d loc) : ¬ InRange lo sz a := by
  induction b generalizing a with
  | empty => simp [resolve] at h
  | ram base size rest ih =>
    simp only [resolve] at h
    simp only [rangeClear, Bool.and_eq_true] at hc
    split at h
    · rename_i hr; exact not_inRange_of_disjoint hc.1 hr
    · exact ih hc.2 h
  | external base size id rest ih =>
    simp only [resolve] at h
    simp only [rangeClear, Bool.and_eq_true] at hc
    split at h
    · rename_i hr; exact not_inRange_of_disjoint hc.1 hr
    · exact ih hc.2 h
  | nested base inner rest ihi ihr =>
    simp only [resolve] at h
    simp only [rangeClear, Bool.and_eq_true] at hc
    split at h
    · rename_i hr; exact not_inRange_of_disjoint hc.1 hr
    · exact ihr hc.2 h

/-- In a well-formed bus map, the addresses after an owned one belong to the same device at the following local addresses, up
to the device's end (R47). -/
theorem resolve_add {b : Bus} {a k : Nat} {d : Leaf} {loc : Nat} (hw : busWf b = true) (h : resolve b a = .found d loc)
    (hk : loc + k < d.size) : resolve b (a + k) = .found d (loc + k) := by
  induction b generalizing a with
  | empty => simp [resolve] at h
  | ram base size rest ih =>
    simp only [busWf, Bool.and_eq_true] at hw
    simp only [resolve] at h ⊢
    split at h
    · rename_i hr
      cases h
      simp only [Leaf.size] at hk
      rw [if_pos (show InRange base size (a + k) by unfold InRange at *; omega)]
      congr 1; omega
    · have h' := ih hw.2 h
      rw [if_neg (not_inRange_of_clear hw.1 h'), h']
  | external base size id rest ih =>
    simp only [busWf, Bool.and_eq_true] at hw
    simp only [resolve] at h ⊢
    split at h
    · rename_i hr
      cases h
      simp only [Leaf.size] at hk
      rw [if_pos (show InRange base size (a + k) by unfold InRange at *; omega)]
      congr 1; omega
    · have h' := ih hw.2 h
      rw [if_neg (not_inRange_of_clear hw.1 h'), h']
  | nested base inner rest ihi ihr =>
    simp only [busWf, Bool.and_eq_true] at hw
    simp only [resolve] at h ⊢
    split at h
    · rename_i hr
      have h' := ihi hw.1.2 h
      have hlt := resolve_lt_busSize h'
      rw [if_pos (show InRange base (busSize inner) (a + k) by unfold InRange at *; omega)]
      rw [show a + k - base = a - base + k by unfold InRange at hr; omega]
      exact h'
    · have h' := ihr hw.2 h
      rw [if_neg (not_inRange_of_clear hw.1.1 h'), h']

/-- Every byte of an access that fits a RAM is a byte that RAM holds. -/
theorem ramAt_of_fits {b : Bus} {a n k size loc : Nat} (hw : busWf b = true) (h : resolve b a = .found (.ram size) loc)
    (hn : loc + n ≤ size) (hk : k < n) : ramAt b (a + k) = true := by
  have := resolve_add (k := k) hw h (by simp only [Leaf.size]; omega)
  simp [ramAt, this]

end Sys2Proof.Machine
end

