-- ==== Sys2Proof/Laws/Memory.lean ====
section
/-! SUPPORT. The laws of RAM contents: reading after writing, the canonical form, and the packing of bytes. -/

namespace Sys2Proof.Machine

/-- Every address of the contents is above `lo`. -/
abbrev Memory.above (lo : Nat) (m : Memory) : Prop := ∀ c ∈ m, lo < c.1

@[simp] theorem Memory.read_nil (a : Nat) : Memory.read [] a = Memory.unlisted := rfl

theorem Memory.read_of_above {m : Memory} {a : Nat} (h : Memory.above a m) : Memory.read m a = Memory.unlisted := by
  induction m with
  | nil => rfl
  | cons c m ih =>
    obtain ⟨k, v⟩ := c
    have hk : a < k := h (k, v) (by simp)
    simp only [Memory.read, if_neg (Nat.ne_of_lt hk)]
    exact ih (fun c hc => h c (by simp [hc]))

theorem Memory.wf_cons {c : Host.Cell} {m : Memory} :
    Memory.wf (c :: m) ↔ Memory.above c.1 m ∧ c.2 ≠ Memory.unlisted ∧ Memory.wf m := by
  simp only [Memory.wf, List.pairwise_cons, List.mem_cons, forall_eq_or_imp]
  tauto

theorem Memory.mem_put {a : Nat} {b : Byte} {m : Memory} {c : Host.Cell} (h : c ∈ Memory.put a b m) :
    c = (a, b) ∨ c ∈ m := by
  unfold Memory.put at h
  split at h
  · exact .inr h
  · simpa using h

theorem Memory.put_wf {a : Nat} {b : Byte} {m : Memory} (hm : Memory.wf m) (ha : Memory.above a m) :
    Memory.wf (Memory.put a b m) := by
  unfold Memory.put
  split
  · exact hm
  · exact Memory.wf_cons.2 ⟨ha, by assumption, hm⟩

/-- A listed entry after a write is the written one or was listed before. -/
theorem Memory.mem_write {m : Memory} {a : Nat} {b : Byte} {c : Host.Cell} (h : c ∈ Memory.write m a b) :
    c = (a, b) ∨ c ∈ m := by
  induction m with
  | nil => exact (Memory.mem_put h).imp_right (by simp)
  | cons d m ih =>
    obtain ⟨k, v⟩ := d
    simp only [Memory.write] at h
    split at h
    · exact Memory.mem_put h
    · split at h
      · exact (Memory.mem_put h).imp_right (List.mem_cons_of_mem _)
      · rcases List.mem_cons.1 h with h | h
        · exact .inr (by simp [h])
        · exact (ih h).imp_right (List.mem_cons_of_mem _)

/-- A write keeps the canonical form. -/
theorem Memory.write_wf {m : Memory} (hm : Memory.wf m) (a : Nat) (b : Byte) : Memory.wf (Memory.write m a b) := by
  induction m with
  | nil => exact Memory.put_wf hm (by simp [Memory.above])
  | cons d m ih =>
    obtain ⟨k, v⟩ := d
    obtain ⟨hab, hv, hm'⟩ := Memory.wf_cons.1 hm
    simp only [Memory.write]
    split
    · rename_i hlt
      refine Memory.put_wf hm ?_
      intro c hc
      rcases List.mem_cons.1 hc with rfl | hc
      · exact hlt
      · exact Nat.lt_trans hlt (hab c hc)
    · split
      · rename_i heq
        exact Memory.put_wf hm' (heq ▸ hab)
      · rename_i hnl hne
        refine Memory.wf_cons.2 ⟨?_, hv, ih hm'⟩
        intro c hc
        rcases Memory.mem_write hc with rfl | hc
        · show k < a; omega
        · exact hab c hc

theorem Memory.read_put {a x : Nat} {b : Byte} {m : Memory} (ha : Memory.read m a = Memory.unlisted) :
    Memory.read (Memory.put a b m) x = if x = a then b else Memory.read m x := by
  unfold Memory.put
  split
  · rename_i hb
    split
    · rename_i hx; rw [hx, ha, hb]
    · rfl
  · simp only [Memory.read]

/-- Reading after writing: the written byte at its address, every other address as before. -/
theorem Memory.read_write {m : Memory} (hm : Memory.wf m) (a x : Nat) (b : Byte) :
    Memory.read (Memory.write m a b) x = if x = a then b else Memory.read m x := by
  induction m with
  | nil => exact Memory.read_put rfl
  | cons d m ih =>
    obtain ⟨k, v⟩ := d
    obtain ⟨hab, hv, hm'⟩ := Memory.wf_cons.1 hm
    simp only [Memory.write]
    split
    · rename_i hlt
      refine Memory.read_put (Memory.read_of_above ?_)
      intro c hc
      rcases List.mem_cons.1 hc with rfl | hc
      · exact hlt
      · exact Nat.lt_trans hlt (hab c hc)
    · split
      · rename_i heq
        subst heq
        rw [Memory.read_put (Memory.read_of_above hab)]
        simp only [Memory.read]
        split <;> rfl
      · rename_i hnl hne
        simp only [Memory.read, ih hm']
        split
        · rename_i hx; subst hx; rw [if_neg (fun h => hne h.symm)]
        · rfl

theorem Memory.writeBytes_wf {m : Memory} (hm : Memory.wf m) (a : Nat) (bs : List Byte) :
    Memory.wf (Memory.writeBytes m a bs) := by
  induction bs generalizing m a with
  | nil => exact hm
  | cons b bs ih => exact ih (Memory.write_wf hm a b) (a + 1)

/-- Reading after a write of several bytes: byte `k` of them at `a + k`, every other address as before. -/
theorem Memory.read_writeBytes {m : Memory} (hm : Memory.wf m) (a x : Nat) (bs : List Byte) :
    Memory.read (Memory.writeBytes m a bs) x =
      if a ≤ x then (match bs[x - a]? with | some b => b | none => Memory.read m x) else Memory.read m x := by
  induction bs generalizing m a with
  | nil => simp [Memory.writeBytes]
  | cons b bs ih =>
    simp only [Memory.writeBytes, ih (Memory.write_wf hm a b), Memory.read_write hm]
    by_cases h1 : a + 1 ≤ x
    · have h2 : a ≤ x := by omega
      have h3 : x ≠ a := by omega
      have h4 : x - a = (x - (a + 1)) + 1 := by omega
      simp [h1, h2, h3, h4]
    · by_cases h2 : x = a
      · subst h2; simp
      · have h3 : ¬ a ≤ x := by omega
        simp [h1, h2, h3]

/-- A listed entry after a write of several bytes is one of theirs or was listed before. -/
theorem Memory.mem_writeBytes {m : Memory} {a : Nat} {bs : List Byte} {c : Host.Cell}
    (h : c ∈ Memory.writeBytes m a bs) : (a ≤ c.1 ∧ c.1 < a + bs.length) ∨ c ∈ m := by
  induction bs generalizing m a with
  | nil => exact .inr h
  | cons b bs ih =>
    rcases ih h with ⟨h1, h2⟩ | h
    · left; simp only [List.length_cons]; omega
    · rcases Memory.mem_write h with rfl | h
      · left; simp
      · exact .inr h

@[simp] theorem Memory.readBytes_length (m : Memory) (a n : Nat) : (Memory.readBytes m a n).length = n := by
  induction n generalizing a with
  | zero => rfl
  | succ n ih => simp [Memory.readBytes, ih]

theorem Memory.readBytes_getElem? (m : Memory) (a n k : Nat) (h : k < n) :
    (Memory.readBytes m a n)[k]? = some (Memory.read m (a + k)) := by
  induction n generalizing a k with
  | zero => omega
  | succ n ih =>
    cases k with
    | zero => simp [Memory.readBytes]
    | succ k => simp [Memory.readBytes, ih (a + 1) k (by omega), Nat.add_assoc, Nat.add_comm 1 k]

/-- Reading back the bytes just written gives them (R45). -/
theorem Memory.readBytes_writeBytes {m : Memory} (hm : Memory.wf m) (a : Nat) (bs : List Byte) :
    Memory.readBytes (Memory.writeBytes m a bs) a bs.length = bs := by
  apply List.ext_getElem?
  intro k
  by_cases hk : k < bs.length
  · rw [Memory.readBytes_getElem? _ _ _ _ hk, Memory.read_writeBytes hm]
    simp [List.getElem?_eq_getElem hk]
  · rw [List.getElem?_eq_none (by simpa using hk), List.getElem?_eq_none (by simpa using hk)]

/-- A read of bytes sees only the bytes at its addresses. -/
theorem Memory.readBytes_congr {m m' : Memory} {a n : Nat}
    (h : ∀ k, k < n → Memory.read m' (a + k) = Memory.read m (a + k)) :
    Memory.readBytes m' a n = Memory.readBytes m a n := by
  apply List.ext_getElem?
  intro k
  by_cases hk : k < n
  · rw [Memory.readBytes_getElem? _ _ _ _ hk, Memory.readBytes_getElem? _ _ _ _ hk, h k hk]
  · rw [List.getElem?_eq_none (by simpa using hk), List.getElem?_eq_none (by simpa using hk)]

end Sys2Proof.Machine

namespace Sys2Proof

@[simp] theorem unpackLittle_length (n v : Nat) : (unpackLittle n v).length = n := by
  induction n generalizing v with
  | zero => rfl
  | succ n ih => simp [unpackLittle, ih]

/-- Byte `k` of a value unpacked in little-endian order (R48). -/
theorem unpackLittle_getElem? (n v k : Nat) (h : k < n) :
    (unpackLittle n v)[k]? = some (BitVec.ofNat 8 (v / 256 ^ k)) := by
  induction n generalizing v k with
  | zero => omega
  | succ n ih =>
    cases k with
    | zero => simp [unpackLittle]
    | succ k => simp [unpackLittle, ih (v / 256) k (by omega), Nat.div_div_eq_div_mul, Nat.pow_succ, Nat.mul_comm]

theorem packLittle_lt (bs : List Byte) : packLittle bs < 256 ^ bs.length := by
  induction bs with
  | nil => simp [packLittle]
  | cons b bs ih =>
    have hb := b.isLt
    simp only [packLittle, List.length_cons, Nat.pow_succ]
    omega

/-- Packing what was unpacked gives the value's low bytes. -/
theorem packLittle_unpackLittle (n v : Nat) : packLittle (unpackLittle n v) = v % 256 ^ n := by
  induction n generalizing v with
  | zero => simp [packLittle, unpackLittle, Nat.mod_one]
  | succ n ih =>
    simp only [unpackLittle, packLittle, ih, BitVec.toNat_ofNat, Nat.pow_succ (n := 256)]
    rw [Nat.mul_comm (256 ^ n) 256, Nat.mod_mul]

/-- Unpacking what was packed gives the bytes. -/
theorem unpackLittle_packLittle (bs : List Byte) : unpackLittle bs.length (packLittle bs) = bs := by
  induction bs with
  | nil => rfl
  | cons b bs ih =>
    have hb := b.isLt
    simp only [List.length_cons, unpackLittle, packLittle]
    congr 1
    · apply BitVec.eq_of_toNat_eq; simp; omega
    · rw [show (b.toNat + 256 * packLittle bs) / 256 = packLittle bs by omega]; exact ih

end Sys2Proof
end

