-- ==== Sys2Proof/Laws/State.lean ====
section
/-! SUPPORT. One lemma per field per update of the state, and the laws of the two register files. -/

namespace Sys2Proof.Machine

@[simp] theorem State.advance_x (s : State) : s.advance.x = s.x := rfl
@[simp] theorem State.advance_f (s : State) : s.advance.f = s.f := rfl
@[simp] theorem State.advance_pc (s : State) : s.advance.pc = s.pc + 4#64 := rfl
@[simp] theorem State.advance_mem (s : State) : s.advance.mem = s.mem := rfl
@[simp] theorem State.advance_bus (s : State) : s.advance.bus = s.bus := rfl
@[simp] theorem State.advance_execM (s : State) : s.advance.execM = s.execM := rfl
@[simp] theorem State.advance_execA (s : State) : s.advance.execA = s.execA := rfl
@[simp] theorem State.advance_devLog (s : State) : s.advance.devLog = s.devLog := rfl

@[simp] theorem State.jump_x (s : State) (t : Word) : (s.jump t).x = s.x := rfl
@[simp] theorem State.jump_f (s : State) (t : Word) : (s.jump t).f = s.f := rfl
@[simp] theorem State.jump_pc (s : State) (t : Word) : (s.jump t).pc = t := rfl
@[simp] theorem State.jump_mem (s : State) (t : Word) : (s.jump t).mem = s.mem := rfl
@[simp] theorem State.jump_bus (s : State) (t : Word) : (s.jump t).bus = s.bus := rfl
@[simp] theorem State.jump_execM (s : State) (t : Word) : (s.jump t).execM = s.execM := rfl
@[simp] theorem State.jump_execA (s : State) (t : Word) : (s.jump t).execA = s.execA := rfl
@[simp] theorem State.jump_devLog (s : State) (t : Word) : (s.jump t).devLog = s.devLog := rfl

@[simp] theorem State.writeX_f (s : State) (r : XReg) (v : Word) : (s.writeX r v).f = s.f := by
  unfold State.writeX; split <;> rfl
@[simp] theorem State.writeX_pc (s : State) (r : XReg) (v : Word) : (s.writeX r v).pc = s.pc := by
  unfold State.writeX; split <;> rfl
@[simp] theorem State.writeX_mem (s : State) (r : XReg) (v : Word) : (s.writeX r v).mem = s.mem := by
  unfold State.writeX; split <;> rfl
@[simp] theorem State.writeX_bus (s : State) (r : XReg) (v : Word) : (s.writeX r v).bus = s.bus := by
  unfold State.writeX; split <;> rfl
@[simp] theorem State.writeX_execM (s : State) (r : XReg) (v : Word) : (s.writeX r v).execM = s.execM := by
  unfold State.writeX; split <;> rfl
@[simp] theorem State.writeX_execA (s : State) (r : XReg) (v : Word) : (s.writeX r v).execA = s.execA := by
  unfold State.writeX; split <;> rfl
@[simp] theorem State.writeX_devLog (s : State) (r : XReg) (v : Word) : (s.writeX r v).devLog = s.devLog := by
  unfold State.writeX; split <;> rfl

@[simp] theorem State.writeF_x (s : State) (r : FReg) (v : Word) : (s.writeF r v).x = s.x := rfl
@[simp] theorem State.writeF_pc (s : State) (r : FReg) (v : Word) : (s.writeF r v).pc = s.pc := rfl
@[simp] theorem State.writeF_mem (s : State) (r : FReg) (v : Word) : (s.writeF r v).mem = s.mem := rfl

/-- A register read depends on the register file alone. -/
theorem State.readX_congr {s t : State} (h : t.x = s.x) (r : XReg) : t.readX r = s.readX r := by
  simp only [State.readX, h]

/-- An f register read depends on the f file alone. -/
theorem State.readF_congr {s t : State} (h : t.f = s.f) (r : FReg) : t.readF r = s.readF r := by
  simp only [State.readF, h]

@[simp] theorem State.advance_readX (s : State) (r : XReg) : s.advance.readX r = s.readX r := rfl
@[simp] theorem State.advance_readF (s : State) (r : FReg) : s.advance.readF r = s.readF r := rfl
@[simp] theorem State.jump_readX (s : State) (t : Word) (r : XReg) : (s.jump t).readX r = s.readX r := rfl
@[simp] theorem State.jump_readF (s : State) (t : Word) (r : FReg) : (s.jump t).readF r = s.readF r := rfl

@[simp] theorem State.writeX_readF (s : State) (r : XReg) (v : Word) (q : FReg) : (s.writeX r v).readF q = s.readF q :=
  State.readF_congr (State.writeX_f s r v) q

/-- x0 reads 0 in every state (R21). -/
theorem State.readX_x0 (s : State) (r : XReg) (h : r.idx = 0#5) : s.readX r = 0#64 := by
  simp [State.readX, h]

/-- Two register numbers select the same slot only if they are the same. -/
theorem XReg.ext_toNat {q r : XReg} (h : q.idx.toNat = r.idx.toNat) : q = r := by
  cases q; cases r; congr 1; exact BitVec.eq_of_toNat_eq h

/-- Reading after writing: the written value at the written register unless it is x0, any other register as before (R21). -/
theorem State.readX_writeX (s : State) (r q : XReg) (v : Word) :
    (s.writeX r v).readX q = if q = r ∧ r.idx ≠ 0#5 then v else s.readX q := by
  by_cases hr : r.idx = 0#5
  · simp [State.writeX, hr]
  · by_cases hq : q = r
    · subst hq; simp [State.writeX, State.readX, hr]
    · have hn : r.idx.toNat ≠ q.idx.toNat := fun e => hq (XReg.ext_toNat e.symm)
      simp only [State.writeX, State.readX, hr, hq, if_false, false_and]
      split
      · rfl
      · simp [Vector.getElem_set_ne, hn]

/-- A register write never touches slot 0. -/
@[simp] theorem State.writeX_slot0 (s : State) (r : XReg) (v : Word) : (s.writeX r v).x[0] = s.x[0] := by
  unfold State.writeX
  split
  · rfl
  · rename_i h
    have hn : r.idx.toNat ≠ 0 := fun e => h (BitVec.eq_of_toNat_eq (by simpa using e))
    simp [Vector.getElem_set_ne, hn]

/-- Reading an f register after writing one: no register is special (R24). -/
theorem State.readF_writeF (s : State) (r q : FReg) (v : Word) :
    (s.writeF r v).readF q = if q = r then v else s.readF q := by
  by_cases hq : q = r
  · subst hq; simp [State.writeF, State.readF]
  · have hn : r.idx.toNat ≠ q.idx.toNat := by
      intro e; apply hq; cases q; cases r; congr 1; exact BitVec.eq_of_toNat_eq e.symm
    simp [State.writeF, State.readF, hq, Vector.getElem_set_ne, hn]

end Sys2Proof.Machine
end

