-- ==== Sys2Proof/Laws/Access.lean ====
section
/-! SUPPORT. What an access through the bus can do, once: the core's reads, writes and fetch. -/

namespace Sys2Proof.Machine

/-- Two states that differ at most in the history of the external devices. -/
structure SameButLog (s t : State) : Prop where
  x : t.x = s.x
  f : t.f = s.f
  pc : t.pc = s.pc
  mem : t.mem = s.mem
  bus : t.bus = s.bus
  execM : t.execM = s.execM
  execA : t.execA = s.execA

theorem SameButLog.refl (s : State) : SameButLog s s := ⟨rfl, rfl, rfl, rfl, rfl, rfl, rfl⟩

theorem SameButLog.inv {s t : State} (h : SameButLog s t) (hi : s.Inv) : t.Inv :=
  ⟨h.mem ▸ hi.canonical, h.bus ▸ hi.busWf, by rw [h.mem, h.bus]; exact hi.owned, h.x ▸ hi.x0Slot⟩

theorem externalRead_ok {s t : State} {size id loc n : Nat} {bs : List Byte}
    (h : externalRead s size id loc n = .ok (bs, t)) :
    t = { s with devLog := ⟨id, loc, .read n⟩ :: s.devLog } ∧ bs.length = n := by
  unfold externalRead at h
  split at h
  · split at h
    · cases h; exact ⟨rfl, by simp [externalBytes]⟩
    · cases h
    · cases h
  · cases h

/-- An external device faults a read exactly where it runs past its end or the device does not perform it (R42, R43). -/
theorem externalRead_error_iff (s : State) (size id loc n : Nat) :
    (∃ f, externalRead s size id loc n = .error f) ↔
      ¬ (loc + n ≤ size ∧ Config.deviceVerdict s.devLog ⟨id, loc, .read n⟩ = .accept) := by
  unfold externalRead
  by_cases h : (Leaf.external size id).fits loc n
  · rw [if_pos h]
    have h' : loc + n ≤ size := h
    cases Config.deviceVerdict s.devLog ⟨id, loc, .read n⟩ <;> simp [h']
  · rw [if_neg h]
    exact ⟨fun _ hc => h hc.1, fun _ => ⟨_, rfl⟩⟩

theorem externalWrite_ok {s t : State} {size id loc : Nat} {bs : List Byte}
    (h : externalWrite s size id loc bs = .ok t) : t = { s with devLog := ⟨id, loc, .write bs⟩ :: s.devLog } := by
  unfold externalWrite at h
  split at h
  · split at h
    · cases h; rfl
    · cases h
    · cases h
  · cases h

/-- What a read of bytes does: from a RAM it changes nothing and gives that RAM's bytes; from an external device it adds the
access to the history (R40, R47, R55). -/
theorem busReadBytes_ok {s t : State} {a n : Nat} {bs : List Byte} (h : busReadBytes s a n = .ok (bs, t)) :
    (InRam s a n ∧ t = s ∧ bs = s.mem.readBytes a n) ∨
      (∃ size id loc, resolve s.bus a = .found (.external size id) loc ∧
        t = { s with devLog := ⟨id, loc, .read n⟩ :: s.devLog } ∧ bs.length = n) := by
  unfold busReadBytes at h
  split at h
  · cases h
  · rename_i size loc hr
    split at h
    · rename_i hf; cases h; exact .inl ⟨⟨size, loc, hr, hf⟩, rfl, rfl⟩
    · cases h
  · rename_i size id loc hr
    exact .inr ⟨size, id, loc, hr, externalRead_ok h⟩

/-- What a write of bytes does (R40, R48). -/
theorem busWriteBytes_ok {s t : State} {a : Nat} {bs : List Byte} (h : busWriteBytes s a bs = .ok t) :
    (InRam s a bs.length ∧ t = { s with mem := s.mem.writeBytes a bs }) ∨
      (∃ size id loc, resolve s.bus a = .found (.external size id) loc ∧
        t = { s with devLog := ⟨id, loc, .write bs⟩ :: s.devLog }) := by
  unfold busWriteBytes at h
  split at h
  · cases h
  · rename_i size loc hr
    split at h
    · rename_i hf; cases h; exact .inl ⟨⟨size, loc, hr, hf⟩, rfl⟩
    · cases h
  · rename_i size id loc hr
    exact .inr ⟨size, id, loc, hr, externalWrite_ok h⟩

/-- A read that lies in a RAM gives its bytes and changes nothing (R47). -/
theorem busReadBytes_inRam {s : State} {a n : Nat} (h : InRam s a n) :
    busReadBytes s a n = .ok (s.mem.readBytes a n, s) := by
  obtain ⟨size, loc, hr, hf⟩ := h
  simp only [busReadBytes, hr]
  exact if_pos hf

/-- A write that lies in a RAM writes its bytes and changes nothing else (R48). -/
theorem busWriteBytes_inRam {s : State} {a : Nat} {bs : List Byte} (h : InRam s a bs.length) :
    busWriteBytes s a bs = .ok { s with mem := s.mem.writeBytes a bs } := by
  obtain ⟨size, loc, hr, hf⟩ := h
  simp only [busWriteBytes, hr]
  exact if_pos hf

theorem busReadInt_ok {s t : State} {a n : Nat} {e : Endian} {sg : Bool} {v : Word}
    (h : busReadInt s a n e sg = .ok (v, t)) :
    ∃ bs, busReadBytes s a n = .ok (bs, t) ∧ v = extendBytes sg n (packLittle (orderBytes e bs)) := by
  unfold busReadInt at h
  split at h
  · split at h
    · rename_i bs s' hb; cases h; exact ⟨bs, hb, rfl⟩
    · cases h
  · split at h <;> cases h

/-- A successful read of the core leaves everything but the external devices' history as it was. -/
theorem memRead_sameButLog {s t : State} {addr : Word} {n : Nat} {v : Word} (h : memRead s addr n = .ok (v, t)) :
    SameButLog s t := by
  obtain ⟨bs, hb, -⟩ := busReadInt_ok h
  rcases busReadBytes_ok hb with ⟨-, rfl, -⟩ | ⟨size, id, loc, -, rfl, -⟩
  · exact .refl _
  · exact ⟨rfl, rfl, rfl, rfl, rfl, rfl, rfl⟩

/-- The core's read in a RAM: the little-endian value of its bytes, and no change (R47). -/
theorem memRead_inRam {s : State} {addr : Word} {n : Nat} (hn : IntWidth n) (h : InRam s addr.toNat n) :
    memRead s addr n = .ok (BitVec.ofNat 64 (packLittle (s.mem.readBytes addr.toNat n)), s) := by
  simp only [memRead, busReadInt, if_pos hn, busReadBytes_inRam h, extendBytes, orderBytes, Bool.false_eq_true, if_false]

/-- The core's read of an external device is that device's own answer, least significant byte first (R40, R47). -/
theorem memRead_external {s : State} {addr : Word} {size id loc n : Nat} (hn : IntWidth n)
    (h : resolve s.bus addr.toNat = .found (.external size id) loc) :
    memRead s addr n = match externalRead s size id loc n with
      | .ok (bs, s') => .ok (BitVec.ofNat 64 (packLittle bs), s')
      | .error f => .error f := by
  have hb : busReadBytes s addr.toNat n = externalRead s size id loc n := by simp only [busReadBytes, h]
  unfold memRead busReadInt
  rw [if_pos hn, hb]
  cases externalRead s size id loc n <;> rfl

/-- The core's write in a RAM: the low bytes of the value, least significant first, and no other change (R48). -/
theorem memWrite_inRam {s : State} {addr : Word} {n : Nat} {v : Word} (hn : IntWidth n) (h : InRam s addr.toNat n) :
    memWrite s addr n v = .ok { s with mem := s.mem.writeBytes addr.toNat (unpackLittle n v.toNat) } := by
  simp only [memWrite, busWriteInt, if_pos hn, orderBytes]
  exact busWriteBytes_inRam (by simpa using h)

/-- What a successful write of the core does: RAM bytes change, or the history of the external devices grows. -/
theorem memWrite_ok {s t : State} {addr : Word} {n : Nat} {v : Word} (h : memWrite s addr n v = .ok t) :
    (InRam s addr.toNat n ∧ t = { s with mem := s.mem.writeBytes addr.toNat (unpackLittle n v.toNat) }) ∨
      SameButLog s t := by
  unfold memWrite busWriteInt at h
  split at h
  · simp only [orderBytes] at h
    rcases busWriteBytes_ok h with ⟨hr, rfl⟩ | ⟨size, id, loc, -, rfl⟩
    · exact .inl ⟨by simpa using hr, rfl⟩
    · exact .inr ⟨rfl, rfl, rfl, rfl, rfl, rfl, rfl⟩
  · split at h <;> cases h

/-- A successful write of the core leaves registers, pc and platform as they were. -/
theorem memWrite_frame {s t : State} {addr : Word} {n : Nat} {v : Word} (h : memWrite s addr n v = .ok t) :
    t.x = s.x ∧ t.f = s.f ∧ t.pc = s.pc ∧ t.bus = s.bus ∧ t.execM = s.execM ∧ t.execA = s.execA := by
  rcases memWrite_ok h with ⟨-, rfl⟩ | hs
  · exact ⟨rfl, rfl, rfl, rfl, rfl, rfl⟩
  · exact ⟨hs.x, hs.f, hs.pc, hs.bus, hs.execM, hs.execA⟩

/-- A write into a RAM keeps the invariant. -/
theorem writeBytes_inv {s : State} {a : Nat} {bs : List Byte} (hi : s.Inv) (h : InRam s a bs.length) :
    State.Inv { s with mem := s.mem.writeBytes a bs } := by
  obtain ⟨size, loc, hr, hf⟩ := h
  refine ⟨Memory.writeBytes_wf hi.canonical a bs, hi.busWf, ?_, hi.x0Slot⟩
  intro c hc
  rcases Memory.mem_writeBytes hc with ⟨h1, h2⟩ | hc
  · have := ramAt_of_fits (k := c.1 - a) hi.busWf hr hf (by omega)
    rwa [show a + (c.1 - a) = c.1 by omega] at this
  · exact hi.owned c hc

/-- A successful write of the core keeps the invariant. -/
theorem memWrite_inv {s t : State} {addr : Word} {n : Nat} {v : Word} (hi : s.Inv) (h : memWrite s addr n v = .ok t) :
    t.Inv := by
  rcases memWrite_ok h with ⟨hr, rfl⟩ | hs
  · exact writeBytes_inv hi (by simpa using hr)
  · exact hs.inv hi

/-- A successful fetch leaves everything but the external devices' history as it was. -/
theorem fetch_sameButLog {s t : State} {w : InstrWord} (h : fetch s = .ok (w, t)) : SameButLog s t := by
  unfold fetch at h
  split at h
  · rename_i v s' hv; cases h; exact memRead_sameButLog hv
  · cases h

/-- A fetch from a RAM gives the little-endian word of the four bytes at the pc and changes nothing (R50). -/
theorem fetch_inRam {s : State} (h : InRam s s.pc.toNat 4) :
    fetch s = .ok (wordOfBytes (s.mem.readBytes s.pc.toNat 4), s) := by
  simp only [fetch, memRead_inRam (Or.inr (Or.inr (Or.inl rfl))) h, wordOfBytes]
  congr 2
  apply BitVec.eq_of_toNat_eq
  simp

end Sys2Proof.Machine
end

