-- ==== Sys2Proof/Laws/Encoding.lean ====
section
/-! SUPPORT. What each field of a word holds in each layout of the encoder (spec 30_encoding.md R65 to R73, R80, R82). -/

namespace Sys2Proof.Laws

set_option linter.unusedSimpArgs false

variable (f7 : BitVec 7) (rs3 rs2 rs1 rd : BitVec 5) (f3 : BitVec 3) (op : BitVec 7) (imm : Word)

/-- A field of a concatenation whose width is written as a sum is the field of the word. -/
theorem slice_of {n m lo len : Nat} (h : n = m) {x : BitVec n} {y : BitVec len} (e : x.extractLsb' lo len = y) :
    (x.cast h).extractLsb' lo len = y := by
  subst h
  simpa using e

/-! ## The R layout -/

@[simp] theorem encR_opcode : opcodeOf (encR f7 rs2 rs1 f3 rd op) = op :=
  slice_of (n := 7 + 5 + 5 + 3 + 5 + 7) rfl (x := f7 ++ rs2 ++ rs1 ++ f3 ++ rd ++ op)
    (by simp (disch := decide) only [BitVec.extractLsb'_append_eq_of_add_le, BitVec.extractLsb'_append_eq_of_le, BitVec.extractLsb'_eq_self,
      Nat.reduceSub])

@[simp] theorem encR_rd : rdOf (encR f7 rs2 rs1 f3 rd op) = rd :=
  slice_of (n := 7 + 5 + 5 + 3 + 5 + 7) rfl (x := f7 ++ rs2 ++ rs1 ++ f3 ++ rd ++ op)
    (by simp (disch := decide) only [BitVec.extractLsb'_append_eq_of_add_le, BitVec.extractLsb'_append_eq_of_le, BitVec.extractLsb'_eq_self,
      Nat.reduceSub])

@[simp] theorem encR_funct3 : funct3Of (encR f7 rs2 rs1 f3 rd op) = f3 :=
  slice_of (n := 7 + 5 + 5 + 3 + 5 + 7) rfl (x := f7 ++ rs2 ++ rs1 ++ f3 ++ rd ++ op)
    (by simp (disch := decide) only [BitVec.extractLsb'_append_eq_of_add_le, BitVec.extractLsb'_append_eq_of_le, BitVec.extractLsb'_eq_self,
      Nat.reduceSub])

@[simp] theorem encR_rs1 : rs1Of (encR f7 rs2 rs1 f3 rd op) = rs1 :=
  slice_of (n := 7 + 5 + 5 + 3 + 5 + 7) rfl (x := f7 ++ rs2 ++ rs1 ++ f3 ++ rd ++ op)
    (by simp (disch := decide) only [BitVec.extractLsb'_append_eq_of_add_le, BitVec.extractLsb'_append_eq_of_le, BitVec.extractLsb'_eq_self,
      Nat.reduceSub])

@[simp] theorem encR_rs2 : rs2Of (encR f7 rs2 rs1 f3 rd op) = rs2 :=
  slice_of (n := 7 + 5 + 5 + 3 + 5 + 7) rfl (x := f7 ++ rs2 ++ rs1 ++ f3 ++ rd ++ op)
    (by simp (disch := decide) only [BitVec.extractLsb'_append_eq_of_add_le, BitVec.extractLsb'_append_eq_of_le, BitVec.extractLsb'_eq_self,
      Nat.reduceSub])

@[simp] theorem encR_funct7 : funct7Of (encR f7 rs2 rs1 f3 rd op) = f7 :=
  slice_of (n := 7 + 5 + 5 + 3 + 5 + 7) rfl (x := f7 ++ rs2 ++ rs1 ++ f3 ++ rd ++ op)
    (by simp (disch := decide) only [BitVec.extractLsb'_append_eq_of_add_le, BitVec.extractLsb'_append_eq_of_le, BitVec.extractLsb'_eq_self,
      Nat.reduceSub])

@[simp] theorem encR_func5 : func5Of (encR f7 rs2 rs1 f3 rd op) = f7.extractLsb' 2 5 :=
  slice_of (n := 7 + 5 + 5 + 3 + 5 + 7) rfl (x := f7 ++ rs2 ++ rs1 ++ f3 ++ rd ++ op)
    (by simp (disch := decide) only [BitVec.extractLsb'_append_eq_of_add_le, BitVec.extractLsb'_append_eq_of_le, BitVec.extractLsb'_eq_self,
      Nat.reduceSub])

@[simp] theorem encR_fmt : fmtOf (encR f7 rs2 rs1 f3 rd op) = f7.extractLsb' 0 2 :=
  slice_of (n := 7 + 5 + 5 + 3 + 5 + 7) rfl (x := f7 ++ rs2 ++ rs1 ++ f3 ++ rd ++ op)
    (by simp (disch := decide) only [BitVec.extractLsb'_append_eq_of_add_le, BitVec.extractLsb'_append_eq_of_le, BitVec.extractLsb'_eq_self,
      Nat.reduceSub])

@[simp] theorem encR_shamt5 : shamt5Of (encR f7 rs2 rs1 f3 rd op) = rs2 := encR_rs2 f7 rs2 rs1 rd f3 op

/-- Bits 31 to 20 of the R layout: funct7 over rs2. -/
theorem encR_high : imm12Of (encR f7 rs2 rs1 f3 rd op) = f7 ++ rs2 :=
  slice_of (n := 7 + 5 + 5 + 3 + 5 + 7) rfl (x := f7 ++ rs2 ++ rs1 ++ f3 ++ rd ++ op) <| by
    simp (disch := decide) only [BitVec.extractLsb'_append_eq_of_le, Nat.reduceSub]
    exact BitVec.extractLsb'_eq_self

/-! ## The I layout -/

@[simp] theorem encI_opcode : opcodeOf (encI imm rs1 f3 rd op) = op :=
  slice_of (n := 12 + 5 + 3 + 5 + 7) rfl (x := imm.extractLsb' 0 12 ++ rs1 ++ f3 ++ rd ++ op)
    (by simp (disch := decide) only [BitVec.extractLsb'_append_eq_of_add_le, BitVec.extractLsb'_append_eq_of_le, BitVec.extractLsb'_eq_self,
      Nat.reduceSub])

@[simp] theorem encI_rd : rdOf (encI imm rs1 f3 rd op) = rd :=
  slice_of (n := 12 + 5 + 3 + 5 + 7) rfl (x := imm.extractLsb' 0 12 ++ rs1 ++ f3 ++ rd ++ op)
    (by simp (disch := decide) only [BitVec.extractLsb'_append_eq_of_add_le, BitVec.extractLsb'_append_eq_of_le, BitVec.extractLsb'_eq_self,
      Nat.reduceSub])

@[simp] theorem encI_funct3 : funct3Of (encI imm rs1 f3 rd op) = f3 :=
  slice_of (n := 12 + 5 + 3 + 5 + 7) rfl (x := imm.extractLsb' 0 12 ++ rs1 ++ f3 ++ rd ++ op)
    (by simp (disch := decide) only [BitVec.extractLsb'_append_eq_of_add_le, BitVec.extractLsb'_append_eq_of_le, BitVec.extractLsb'_eq_self,
      Nat.reduceSub])

@[simp] theorem encI_rs1 : rs1Of (encI imm rs1 f3 rd op) = rs1 :=
  slice_of (n := 12 + 5 + 3 + 5 + 7) rfl (x := imm.extractLsb' 0 12 ++ rs1 ++ f3 ++ rd ++ op)
    (by simp (disch := decide) only [BitVec.extractLsb'_append_eq_of_add_le, BitVec.extractLsb'_append_eq_of_le, BitVec.extractLsb'_eq_self,
      Nat.reduceSub])

@[simp] theorem encI_imm12 : imm12Of (encI imm rs1 f3 rd op) = imm.extractLsb' 0 12 :=
  slice_of (n := 12 + 5 + 3 + 5 + 7) rfl (x := imm.extractLsb' 0 12 ++ rs1 ++ f3 ++ rd ++ op)
    (by simp (disch := decide) only [BitVec.extractLsb'_append_eq_of_add_le, BitVec.extractLsb'_append_eq_of_le, BitVec.extractLsb'_eq_self,
      Nat.reduceSub])

@[simp] theorem encI_imm : immI (encI imm rs1 f3 rd op) = (imm.extractLsb' 0 12).signExtend 64 := by
  simp [immI]

/-! ## The 64-bit shifts by an immediate -/

variable (f6 sh : BitVec 6)

@[simp] theorem encShift6_opcode : opcodeOf (encShift6 f6 sh rs1 f3 rd op) = op :=
  slice_of (n := 6 + 6 + 5 + 3 + 5 + 7) rfl (x := f6 ++ sh ++ rs1 ++ f3 ++ rd ++ op)
    (by simp (disch := decide) only [BitVec.extractLsb'_append_eq_of_add_le, BitVec.extractLsb'_append_eq_of_le, BitVec.extractLsb'_eq_self,
      Nat.reduceSub])

@[simp] theorem encShift6_rd : rdOf (encShift6 f6 sh rs1 f3 rd op) = rd :=
  slice_of (n := 6 + 6 + 5 + 3 + 5 + 7) rfl (x := f6 ++ sh ++ rs1 ++ f3 ++ rd ++ op)
    (by simp (disch := decide) only [BitVec.extractLsb'_append_eq_of_add_le, BitVec.extractLsb'_append_eq_of_le, BitVec.extractLsb'_eq_self,
      Nat.reduceSub])

@[simp] theorem encShift6_funct3 : funct3Of (encShift6 f6 sh rs1 f3 rd op) = f3 :=
  slice_of (n := 6 + 6 + 5 + 3 + 5 + 7) rfl (x := f6 ++ sh ++ rs1 ++ f3 ++ rd ++ op)
    (by simp (disch := decide) only [BitVec.extractLsb'_append_eq_of_add_le, BitVec.extractLsb'_append_eq_of_le, BitVec.extractLsb'_eq_self,
      Nat.reduceSub])

@[simp] theorem encShift6_rs1 : rs1Of (encShift6 f6 sh rs1 f3 rd op) = rs1 :=
  slice_of (n := 6 + 6 + 5 + 3 + 5 + 7) rfl (x := f6 ++ sh ++ rs1 ++ f3 ++ rd ++ op)
    (by simp (disch := decide) only [BitVec.extractLsb'_append_eq_of_add_le, BitVec.extractLsb'_append_eq_of_le, BitVec.extractLsb'_eq_self,
      Nat.reduceSub])

@[simp] theorem encShift6_shamt : shamt6Of (encShift6 f6 sh rs1 f3 rd op) = sh :=
  slice_of (n := 6 + 6 + 5 + 3 + 5 + 7) rfl (x := f6 ++ sh ++ rs1 ++ f3 ++ rd ++ op)
    (by simp (disch := decide) only [BitVec.extractLsb'_append_eq_of_add_le, BitVec.extractLsb'_append_eq_of_le, BitVec.extractLsb'_eq_self,
      Nat.reduceSub])

@[simp] theorem encShift6_func6 : func6Of (encShift6 f6 sh rs1 f3 rd op) = f6 :=
  slice_of (n := 6 + 6 + 5 + 3 + 5 + 7) rfl (x := f6 ++ sh ++ rs1 ++ f3 ++ rd ++ op)
    (by simp (disch := decide) only [BitVec.extractLsb'_append_eq_of_add_le, BitVec.extractLsb'_append_eq_of_le, BitVec.extractLsb'_eq_self,
      Nat.reduceSub])

/-! ## The U and J layouts -/

@[simp] theorem encU_opcode : opcodeOf (encU imm rd op) = op :=
  slice_of (n := 20 + 5 + 7) rfl (x := imm.extractLsb' 12 20 ++ rd ++ op)
    (by simp (disch := decide) only [BitVec.extractLsb'_append_eq_of_add_le, BitVec.extractLsb'_append_eq_of_le, BitVec.extractLsb'_eq_self,
      Nat.reduceSub])

@[simp] theorem encU_rd : rdOf (encU imm rd op) = rd :=
  slice_of (n := 20 + 5 + 7) rfl (x := imm.extractLsb' 12 20 ++ rd ++ op)
    (by simp (disch := decide) only [BitVec.extractLsb'_append_eq_of_add_le, BitVec.extractLsb'_append_eq_of_le, BitVec.extractLsb'_eq_self,
      Nat.reduceSub])

@[simp] theorem encU_high : (encU imm rd op).extractLsb' 12 20 = imm.extractLsb' 12 20 :=
  slice_of (n := 20 + 5 + 7) rfl (x := imm.extractLsb' 12 20 ++ rd ++ op)
    (by simp (disch := decide) only [BitVec.extractLsb'_append_eq_of_add_le, BitVec.extractLsb'_append_eq_of_le, BitVec.extractLsb'_eq_self,
      Nat.reduceSub])

@[simp] theorem encJ_opcode : opcodeOf (encJ imm rd op) = op :=
  slice_of (n := 1 + 10 + 1 + 8 + 5 + 7) rfl
    (x := imm.extractLsb' 20 1 ++ imm.extractLsb' 1 10 ++ imm.extractLsb' 11 1 ++ imm.extractLsb' 12 8 ++ rd ++ op)
    (by simp (disch := decide) only [BitVec.extractLsb'_append_eq_of_add_le, BitVec.extractLsb'_append_eq_of_le, BitVec.extractLsb'_eq_self,
      Nat.reduceSub])

@[simp] theorem encJ_rd : rdOf (encJ imm rd op) = rd :=
  slice_of (n := 1 + 10 + 1 + 8 + 5 + 7) rfl
    (x := imm.extractLsb' 20 1 ++ imm.extractLsb' 1 10 ++ imm.extractLsb' 11 1 ++ imm.extractLsb' 12 8 ++ rd ++ op)
    (by simp (disch := decide) only [BitVec.extractLsb'_append_eq_of_add_le, BitVec.extractLsb'_append_eq_of_le, BitVec.extractLsb'_eq_self,
      Nat.reduceSub])

/-! ## The FENCE layout -/

variable (fm pred succ : BitVec 4)

@[simp] theorem encFence_opcode : opcodeOf (encFence fm pred succ rs1 rd) = 0x0F#7 :=
  slice_of (n := 4 + 4 + 4 + 5 + 3 + 5 + 7) rfl (x := fm ++ pred ++ succ ++ rs1 ++ 0b000#3 ++ rd ++ 0x0F#7)
    (by simp (disch := decide) only [BitVec.extractLsb'_append_eq_of_add_le, BitVec.extractLsb'_append_eq_of_le, BitVec.extractLsb'_eq_self,
      Nat.reduceSub])

@[simp] theorem encFence_funct3 : funct3Of (encFence fm pred succ rs1 rd) = 0b000#3 :=
  slice_of (n := 4 + 4 + 4 + 5 + 3 + 5 + 7) rfl (x := fm ++ pred ++ succ ++ rs1 ++ 0b000#3 ++ rd ++ 0x0F#7)
    (by simp (disch := decide) only [BitVec.extractLsb'_append_eq_of_add_le, BitVec.extractLsb'_append_eq_of_le, BitVec.extractLsb'_eq_self,
      Nat.reduceSub])

@[simp] theorem encFence_fm : (encFence fm pred succ rs1 rd).extractLsb' 28 4 = fm :=
  slice_of (n := 4 + 4 + 4 + 5 + 3 + 5 + 7) rfl (x := fm ++ pred ++ succ ++ rs1 ++ 0b000#3 ++ rd ++ 0x0F#7)
    (by simp (disch := decide) only [BitVec.extractLsb'_append_eq_of_add_le, BitVec.extractLsb'_append_eq_of_le, BitVec.extractLsb'_eq_self,
      Nat.reduceSub])

@[simp] theorem encFence_pred : (encFence fm pred succ rs1 rd).extractLsb' 24 4 = pred :=
  slice_of (n := 4 + 4 + 4 + 5 + 3 + 5 + 7) rfl (x := fm ++ pred ++ succ ++ rs1 ++ 0b000#3 ++ rd ++ 0x0F#7)
    (by simp (disch := decide) only [BitVec.extractLsb'_append_eq_of_add_le, BitVec.extractLsb'_append_eq_of_le, BitVec.extractLsb'_eq_self,
      Nat.reduceSub])

@[simp] theorem encFence_succ : (encFence fm pred succ rs1 rd).extractLsb' 20 4 = succ :=
  slice_of (n := 4 + 4 + 4 + 5 + 3 + 5 + 7) rfl (x := fm ++ pred ++ succ ++ rs1 ++ 0b000#3 ++ rd ++ 0x0F#7)
    (by simp (disch := decide) only [BitVec.extractLsb'_append_eq_of_add_le, BitVec.extractLsb'_append_eq_of_le, BitVec.extractLsb'_eq_self,
      Nat.reduceSub])

@[simp] theorem encFence_rs1 : rs1Of (encFence fm pred succ rs1 rd) = rs1 :=
  slice_of (n := 4 + 4 + 4 + 5 + 3 + 5 + 7) rfl (x := fm ++ pred ++ succ ++ rs1 ++ 0b000#3 ++ rd ++ 0x0F#7)
    (by simp (disch := decide) only [BitVec.extractLsb'_append_eq_of_add_le, BitVec.extractLsb'_append_eq_of_le, BitVec.extractLsb'_eq_self,
      Nat.reduceSub])

@[simp] theorem encFence_rd : rdOf (encFence fm pred succ rs1 rd) = rd :=
  slice_of (n := 4 + 4 + 4 + 5 + 3 + 5 + 7) rfl (x := fm ++ pred ++ succ ++ rs1 ++ 0b000#3 ++ rd ++ 0x0F#7)
    (by simp (disch := decide) only [BitVec.extractLsb'_append_eq_of_add_le, BitVec.extractLsb'_append_eq_of_le, BitVec.extractLsb'_eq_self,
      Nat.reduceSub])

/-! ## The aq and rl bits of the AMO layout -/

variable (f5 : BitVec 5) (aq rl : Bool)

@[simp] theorem encAmo_aq : aqOf (encR (f5 ++ BitVec.ofBool aq ++ BitVec.ofBool rl) rs2 rs1 f3 rd op) = aq := by
  have h : (encR (f5 ++ BitVec.ofBool aq ++ BitVec.ofBool rl) rs2 rs1 f3 rd op).extractLsb' 26 1 = BitVec.ofBool aq :=
    slice_of (n := 5 + 1 + 1 + 5 + 5 + 3 + 5 + 7) rfl
      (x := f5 ++ BitVec.ofBool aq ++ BitVec.ofBool rl ++ rs2 ++ rs1 ++ f3 ++ rd ++ op)
      (by simp (disch := decide) only [BitVec.extractLsb'_append_eq_of_add_le, BitVec.extractLsb'_append_eq_of_le, BitVec.extractLsb'_eq_self,
        Nat.reduceSub])
  have h0 := congrArg (fun v => v.getLsbD 0) h
  simpa [aqOf] using h0

@[simp] theorem encAmo_rl : rlOf (encR (f5 ++ BitVec.ofBool aq ++ BitVec.ofBool rl) rs2 rs1 f3 rd op) = rl := by
  have h : (encR (f5 ++ BitVec.ofBool aq ++ BitVec.ofBool rl) rs2 rs1 f3 rd op).extractLsb' 25 1 = BitVec.ofBool rl :=
    slice_of (n := 5 + 1 + 1 + 5 + 5 + 3 + 5 + 7) rfl
      (x := f5 ++ BitVec.ofBool aq ++ BitVec.ofBool rl ++ rs2 ++ rs1 ++ f3 ++ rd ++ op)
      (by simp (disch := decide) only [BitVec.extractLsb'_append_eq_of_add_le, BitVec.extractLsb'_append_eq_of_le, BitVec.extractLsb'_eq_self,
        Nat.reduceSub])
  have h0 := congrArg (fun v => v.getLsbD 0) h
  simpa [rlOf] using h0

/-! ## The immediates of the S, B, U and J layouts: what an encoded immediate decodes to -/

/-- Two neighbouring fields of a value are one field. -/
theorem fields_join {n lo l1 l2 : Nat} (x : BitVec n) :
    x.extractLsb' (lo + l2) l1 ++ x.extractLsb' lo l2 = x.extractLsb' lo (l1 + l2) := by
  ext j hj
  rw [BitVec.getElem_append]
  split
  · simp [*]
  · simp only [BitVec.getElem_extractLsb']
    congr 1
    omega

@[simp] theorem encS_imm : immS (encS imm rs2 rs1 f3 op) = (imm.extractLsb' 0 12).signExtend 64 := by
  simp only [immS, encS, encR_funct7, encR_rd]
  exact congrArg (BitVec.signExtend 64) (fields_join (lo := 0) (l1 := 7) (l2 := 5) imm)

@[simp] theorem encU_imm : immU (encU imm rd op) = (imm.extractLsb' 12 20 ++ 0#12).signExtend 64 := by
  simp only [immU, encU_high]

/-- The four pieces of a B immediate in its word (R71). -/
theorem encB_pieces :
    (encB imm rs2 rs1 f3 op).extractLsb' 31 1 = imm.extractLsb' 12 1 ∧ (encB imm rs2 rs1 f3 op).extractLsb' 7 1 = imm.extractLsb' 11 1 ∧
      (encB imm rs2 rs1 f3 op).extractLsb' 25 6 = imm.extractLsb' 5 6 ∧ (encB imm rs2 rs1 f3 op).extractLsb' 8 4 = imm.extractLsb' 1 4 := by
  refine ⟨?_, ?_, ?_, ?_⟩
  · exact slice_of (n := 1 + 6 + 5 + 5 + 3 + (4 + 1) + 7) rfl
      (x := imm.extractLsb' 12 1 ++ imm.extractLsb' 5 6 ++ rs2 ++ rs1 ++ f3 ++ (imm.extractLsb' 1 4 ++ imm.extractLsb' 11 1) ++ op)
      (by
        simp (disch := decide) only [BitVec.extractLsb'_append_eq_of_add_le, BitVec.extractLsb'_append_eq_of_le, BitVec.extractLsb'_eq_self,
        Nat.reduceSub]
        simp only [Nat.reduceAdd, Nat.reduceSub, BitVec.extractLsb'_eq_self])
  · exact slice_of (n := 1 + 6 + 5 + 5 + 3 + (4 + 1) + 7) rfl
      (x := imm.extractLsb' 12 1 ++ imm.extractLsb' 5 6 ++ rs2 ++ rs1 ++ f3 ++ (imm.extractLsb' 1 4 ++ imm.extractLsb' 11 1) ++ op)
      (by simp (disch := decide) only [BitVec.extractLsb'_append_eq_of_add_le, BitVec.extractLsb'_append_eq_of_le, BitVec.extractLsb'_eq_self,
        Nat.reduceSub])
  · exact slice_of (n := 1 + 6 + 5 + 5 + 3 + (4 + 1) + 7) rfl
      (x := imm.extractLsb' 12 1 ++ imm.extractLsb' 5 6 ++ rs2 ++ rs1 ++ f3 ++ (imm.extractLsb' 1 4 ++ imm.extractLsb' 11 1) ++ op)
      (by
        simp (disch := decide) only [BitVec.extractLsb'_append_eq_of_add_le, BitVec.extractLsb'_append_eq_of_le, BitVec.extractLsb'_eq_self,
        Nat.reduceSub]
        simp only [Nat.reduceAdd, Nat.reduceSub, BitVec.extractLsb'_eq_self])
  · exact slice_of (n := 1 + 6 + 5 + 5 + 3 + (4 + 1) + 7) rfl
      (x := imm.extractLsb' 12 1 ++ imm.extractLsb' 5 6 ++ rs2 ++ rs1 ++ f3 ++ (imm.extractLsb' 1 4 ++ imm.extractLsb' 11 1) ++ op)
      (by simp (disch := decide) only [BitVec.extractLsb'_append_eq_of_add_le, BitVec.extractLsb'_append_eq_of_le, BitVec.extractLsb'_eq_self,
        Nat.reduceSub])

@[simp] theorem encB_imm : immB (encB imm rs2 rs1 f3 op) = (imm.extractLsb' 1 12 ++ 0#1).signExtend 64 := by
  obtain ⟨h1, h2, h3, h4⟩ := encB_pieces rs2 rs1 f3 op imm
  simp only [immB, h1, h2, h3, h4]
  have e : imm.extractLsb' 12 1 ++ imm.extractLsb' 11 1 ++ imm.extractLsb' 5 6 ++ imm.extractLsb' 1 4 = imm.extractLsb' 1 12 := by
    rw [fields_join (lo := 11) (l1 := 1) (l2 := 1) imm]
    exact (congrArg (· ++ imm.extractLsb' 1 4) (fields_join (lo := 5) (l1 := 2) (l2 := 6) imm)).trans
      (fields_join (lo := 1) (l1 := 8) (l2 := 4) imm)
  exact congrArg (fun v : BitVec 12 => (v ++ 0#1).signExtend 64) e

/-- The four pieces of a J immediate in its word (R73). -/
theorem encJ_pieces :
    (encJ imm rd op).extractLsb' 31 1 = imm.extractLsb' 20 1 ∧ (encJ imm rd op).extractLsb' 12 8 = imm.extractLsb' 12 8 ∧
      (encJ imm rd op).extractLsb' 20 1 = imm.extractLsb' 11 1 ∧ (encJ imm rd op).extractLsb' 21 10 = imm.extractLsb' 1 10 := by
  refine ⟨?_, ?_, ?_, ?_⟩
  · exact slice_of (n := 1 + 10 + 1 + 8 + 5 + 7) rfl
      (x := imm.extractLsb' 20 1 ++ imm.extractLsb' 1 10 ++ imm.extractLsb' 11 1 ++ imm.extractLsb' 12 8 ++ rd ++ op)
      (by simp (disch := decide) only [BitVec.extractLsb'_append_eq_of_add_le, BitVec.extractLsb'_append_eq_of_le, BitVec.extractLsb'_eq_self,
        Nat.reduceSub])
  · exact slice_of (n := 1 + 10 + 1 + 8 + 5 + 7) rfl
      (x := imm.extractLsb' 20 1 ++ imm.extractLsb' 1 10 ++ imm.extractLsb' 11 1 ++ imm.extractLsb' 12 8 ++ rd ++ op)
      (by simp (disch := decide) only [BitVec.extractLsb'_append_eq_of_add_le, BitVec.extractLsb'_append_eq_of_le, BitVec.extractLsb'_eq_self,
        Nat.reduceSub])
  · exact slice_of (n := 1 + 10 + 1 + 8 + 5 + 7) rfl
      (x := imm.extractLsb' 20 1 ++ imm.extractLsb' 1 10 ++ imm.extractLsb' 11 1 ++ imm.extractLsb' 12 8 ++ rd ++ op)
      (by simp (disch := decide) only [BitVec.extractLsb'_append_eq_of_add_le, BitVec.extractLsb'_append_eq_of_le, BitVec.extractLsb'_eq_self,
        Nat.reduceSub])
  · exact slice_of (n := 1 + 10 + 1 + 8 + 5 + 7) rfl
      (x := imm.extractLsb' 20 1 ++ imm.extractLsb' 1 10 ++ imm.extractLsb' 11 1 ++ imm.extractLsb' 12 8 ++ rd ++ op)
      (by simp (disch := decide) only [BitVec.extractLsb'_append_eq_of_add_le, BitVec.extractLsb'_append_eq_of_le, BitVec.extractLsb'_eq_self,
        Nat.reduceSub])

@[simp] theorem encJ_imm : immJ (encJ imm rd op) = (imm.extractLsb' 1 20 ++ 0#1).signExtend 64 := by
  obtain ⟨h1, h2, h3, h4⟩ := encJ_pieces rd op imm
  simp only [immJ, h1, h2, h3, h4]
  have e : imm.extractLsb' 20 1 ++ imm.extractLsb' 12 8 ++ imm.extractLsb' 11 1 ++ imm.extractLsb' 1 10 = imm.extractLsb' 1 20 := by
    rw [fields_join (lo := 12) (l1 := 1) (l2 := 8) imm]
    exact (congrArg (· ++ imm.extractLsb' 1 10) (fields_join (lo := 11) (l1 := 9) (l2 := 1) imm)).trans
      (fields_join (lo := 1) (l1 := 10) (l2 := 10) imm)
  exact congrArg (fun v : BitVec 20 => (v ++ 0#1).signExtend 64) e

end Sys2Proof.Laws
end

