-- ==== Sys2Proof/Laws/Decoding.lean ====
section
/-! SUPPORT. The decoder on each opcode of spec 30_encoding.md R64: which sub-dispatch decides, and with which format a word
that selects no variant faults. -/

namespace Sys2Proof.Laws

/-- The outcome of a sub-dispatch: the variant selected, or the fault `NoVariant` (R63, R101). -/
def dispatched (op : BitVec 7) (f : Format) (w : InstrWord) : Option Instr → Except DecodeFault Instr
  | some i => .ok i
  | none => .error (.noVariant op (fieldsOf f w))

@[simp] theorem dispatched_some (op : BitVec 7) (f : Format) (w : InstrWord) (i : Instr) :
    dispatched op f w (some i) = .ok i := rfl

@[simp] theorem dispatched_none (op : BitVec 7) (f : Format) (w : InstrWord) :
    dispatched op f w none = .error (.noVariant op (fieldsOf f w)) := rfl

theorem decode_eq (w : InstrWord) :
    decode w = match formatOf (opcodeOf w) with
      | none => .error (.noFormat (opcodeOf w))
      | some f => dispatched (opcodeOf w) f w (subDispatch w) := by
  unfold decode
  cases formatOf (opcodeOf w) with
  | none => rfl
  | some f => cases subDispatch w <;> rfl

variable {w : InstrWord}

/-- A word decodes only through the sub-dispatch. -/
theorem subDispatch_of_decode {i : Instr} (h : decode w = .ok i) : subDispatch w = some i := by
  rw [decode_eq] at h
  split at h
  · cases h
  · cases hs : subDispatch w with
    | some j => rw [hs, dispatched_some] at h; cases h; rfl
    | none => rw [hs, dispatched_none] at h; cases h

theorem decode_load (h : opcodeOf w = 0x03#7) : decode w = dispatched 0x03#7 .i w (decodeLoad w) := by
  simp [decode_eq, h, formatOf, subDispatch]

theorem decode_loadFp (h : opcodeOf w = 0x07#7) : decode w = dispatched 0x07#7 .i w (decodeLoadFp w) := by
  simp [decode_eq, h, formatOf, subDispatch]

theorem decode_miscMem (h : opcodeOf w = 0x0F#7) : decode w = dispatched 0x0F#7 .i w (decodeMiscMem w) := by
  simp [decode_eq, h, formatOf, subDispatch]

theorem decode_opImm (h : opcodeOf w = 0x13#7) : decode w = dispatched 0x13#7 .i w (decodeOpImm w) := by
  simp [decode_eq, h, formatOf, subDispatch]

theorem decode_opImm32 (h : opcodeOf w = 0x1B#7) : decode w = dispatched 0x1B#7 .i w (decodeOpImm32 w) := by
  simp [decode_eq, h, formatOf, subDispatch]

theorem decode_store (h : opcodeOf w = 0x23#7) : decode w = dispatched 0x23#7 .s w (decodeStore w) := by
  simp [decode_eq, h, formatOf, subDispatch]

theorem decode_storeFp (h : opcodeOf w = 0x27#7) : decode w = dispatched 0x27#7 .s w (decodeStoreFp w) := by
  simp [decode_eq, h, formatOf, subDispatch]

theorem decode_amo (h : opcodeOf w = 0x2F#7) : decode w = dispatched 0x2F#7 .r w (decodeAmo w) := by
  simp [decode_eq, h, formatOf, subDispatch]

theorem decode_op (h : opcodeOf w = 0x33#7) : decode w = dispatched 0x33#7 .r w (decodeOp w) := by
  simp [decode_eq, h, formatOf, subDispatch]

theorem decode_op32 (h : opcodeOf w = 0x3B#7) : decode w = dispatched 0x3B#7 .r w (decodeOp32 w) := by
  simp [decode_eq, h, formatOf, subDispatch]

theorem decode_madd (h : opcodeOf w = 0x43#7) : decode w = dispatched 0x43#7 .r4 w (decodeMadd w) := by
  simp [decode_eq, h, formatOf, subDispatch]

theorem decode_msub (h : opcodeOf w = 0x47#7) : decode w = dispatched 0x47#7 .r4 w (decodeMsub w) := by
  simp [decode_eq, h, formatOf, subDispatch]

theorem decode_nmsub (h : opcodeOf w = 0x4B#7) : decode w = dispatched 0x4B#7 .r4 w (decodeNmsub w) := by
  simp [decode_eq, h, formatOf, subDispatch]

theorem decode_nmadd (h : opcodeOf w = 0x4F#7) : decode w = dispatched 0x4F#7 .r4 w (decodeNmadd w) := by
  simp [decode_eq, h, formatOf, subDispatch]

theorem decode_opFp (h : opcodeOf w = 0x53#7) : decode w = dispatched 0x53#7 .r w (decodeOpFp w) := by
  simp [decode_eq, h, formatOf, subDispatch]

theorem decode_branch (h : opcodeOf w = 0x63#7) : decode w = dispatched 0x63#7 .b w (decodeBranch w) := by
  simp [decode_eq, h, formatOf, subDispatch]

theorem decode_jalr (h : opcodeOf w = 0x67#7) : decode w = dispatched 0x67#7 .i w (decodeJalr w) := by
  simp [decode_eq, h, formatOf, subDispatch]

theorem decode_system (h : opcodeOf w = 0x73#7) : decode w = dispatched 0x73#7 .i w (decodeSystem w) := by
  simp [decode_eq, h, formatOf, subDispatch]

theorem decode_auipc (h : opcodeOf w = 0x17#7) : decode w = .ok (.auipc (rdX w) (immU w)) := by
  simp [decode_eq, h, formatOf, subDispatch]

theorem decode_lui (h : opcodeOf w = 0x37#7) : decode w = .ok (.lui (rdX w) (immU w)) := by
  simp [decode_eq, h, formatOf, subDispatch]

theorem decode_jal (h : opcodeOf w = 0x6F#7) : decode w = .ok (.jal (rdX w) (immJ w)) := by
  simp [decode_eq, h, formatOf, subDispatch]

end Sys2Proof.Laws
end

