-- ==== Sys2Proof/Laws/Exec.lean ====
section
/-! SUPPORT. What each shared shape of instruction can do, once. -/

namespace Sys2Proof.Machine

theorem SamePlatform.refl (s : State) : SamePlatform s s := ⟨rfl, rfl, rfl⟩

/-- A register write and the default advance change the register and the pc alone. -/
theorem onlyRegister_advance (s : State) (rd : XReg) (v : Word) :
    OnlyRegister s (s.writeX rd v).advance rd v (s.pc + 4#64) :=
  ⟨fun r => by simpa using State.readX_writeX s rd r v, fun r => by simp, by simp, fun a => by simp [State.byteAt],
    ⟨by simp, by simp, by simp⟩, by simp⟩

/-- A register write and an explicit jump change the register and the pc alone. -/
theorem onlyRegister_jump (s : State) (rd : XReg) (v t : Word) : OnlyRegister s ((s.writeX rd v).jump t) rd v t :=
  ⟨fun r => by simpa using State.readX_writeX s rd r v, fun r => by simp, by simp, fun a => by simp [State.byteAt],
    ⟨by simp, by simp, by simp⟩, by simp⟩

theorem onlyPc_advance (s : State) : OnlyPc s s.advance (s.pc + 4#64) :=
  ⟨fun _ => rfl, fun _ => rfl, rfl, fun _ => rfl, ⟨rfl, rfl, rfl⟩, rfl⟩

theorem onlyPc_jump (s : State) (t : Word) : OnlyPc s (s.jump t) t :=
  ⟨fun _ => rfl, fun _ => rfl, rfl, fun _ => rfl, ⟨rfl, rfl, rfl⟩, rfl⟩

/-- `retire` completes, changing rd and the pc alone. -/
theorem retire_completes (s : State) (rd : XReg) (v : Word) :
    ∃ t, retire s rd v = .next t ∧ OnlyRegister s t rd v (s.pc + 4#64) :=
  ⟨_, rfl, onlyRegister_advance s rd v⟩

/-- A register-register ALU instruction completes. -/
theorem aluReg_completes (op : AluOp) (rd rs1 rs2 : XReg) (s : State) :
    ∃ t, aluReg op rd rs1 rs2 s = .next t ∧ OnlyRegister s t rd (alu op (s.readX rs1) (s.readX rs2)) (s.pc + 4#64) :=
  retire_completes s rd _

/-- A register-immediate ALU instruction completes. -/
theorem aluImm_completes (op : AluOp) (rd rs1 : XReg) (b : Word) (s : State) :
    ∃ t, aluImm op rd rs1 b s = .next t ∧ OnlyRegister s t rd (alu op (s.readX rs1) b) (s.pc + 4#64) :=
  retire_completes s rd _

/-- A branch completes: its target where the condition holds, else the default advance. -/
theorem branch_completes (c : Cond) (rs1 rs2 : XReg) (imm : Word) (s : State) :
    ∃ t, branch c rs1 rs2 imm s = .next t ∧
      OnlyPc s t (if cmp c (s.readX rs1) (s.readX rs2) then s.pc + imm else s.pc + 4#64) := by
  unfold branch
  split
  · exact ⟨_, rfl, onlyPc_jump s _⟩
  · exact ⟨_, rfl, onlyPc_advance s⟩

/-- A load answers a next state from a successful read, or the device fault of the read (R120). -/
theorem load_cases (n : Nat) (ext : Word → Word) (rd : XReg) (addr : Word) (s : State) :
    (∃ v s', memRead s addr n = .ok (v, s') ∧ load n ext rd addr s = .next (s'.writeX rd (ext v)).advance) ∨
      ∃ f, memRead s addr n = .error f ∧ load n ext rd addr s = .fault (.execute (.device f)) := by
  unfold load
  split
  · rename_i v s' h; exact .inl ⟨v, s', h, rfl⟩
  · rename_i f h; exact .inr ⟨f, h, rfl⟩

/-- A store answers a next state from a successful write, or the device fault of the write (R120). -/
theorem store_cases (n : Nat) (addr v : Word) (s : State) :
    (∃ s', memWrite s addr n v = .ok s' ∧ store n addr v s = .next s'.advance) ∨
      ∃ f, memWrite s addr n v = .error f ∧ store n addr v s = .fault (.execute (.device f)) := by
  unfold store
  split
  · rename_i s' h; exact .inl ⟨s', h, rfl⟩
  · rename_i f h; exact .inr ⟨f, h, rfl⟩

/-- An SC answers a next state from a successful write, or the device fault of the write. -/
theorem storeConditional_cases (n : Nat) (rd rs1 rs2 : XReg) (s : State) :
    (∃ s', memWrite s (s.readX rs1) n (s.readX rs2) = .ok s' ∧
        storeConditional n rd rs1 rs2 s = .next (s'.writeX rd 0#64).advance) ∨
      ∃ f, memWrite s (s.readX rs1) n (s.readX rs2) = .error f ∧
        storeConditional n rd rs1 rs2 s = .fault (.execute (.device f)) := by
  unfold storeConditional
  split
  · rename_i s' h; exact .inl ⟨s', h, rfl⟩
  · rename_i f h; exact .inr ⟨f, h, rfl⟩

/-- The value an AMO writes (R194 to R211). -/
abbrev amoNew (n : Nat) (op : AmoOp) (v b : Word) : Word :=
  (amoResult op (v.setWidth (8 * n)) (b.setWidth (8 * n))).setWidth 64

/-- An AMO answers a next state from a successful read and write, or the device fault of the first that failed (R281). -/
theorem amo_cases (n : Nat) (op : AmoOp) (rd rs1 rs2 : XReg) (s : State) :
    (∃ v s' s'', memRead s (s.readX rs1) n = .ok (v, s') ∧
        memWrite s' (s.readX rs1) n (amoNew n op v (s.readX rs2)) = .ok s'' ∧
        amo n op rd rs1 rs2 s = .next (s''.writeX rd (sextBytes n v)).advance) ∨
      ∃ f, amo n op rd rs1 rs2 s = .fault (.execute (.device f)) := by
  unfold amo
  split
  · rename_i f h; exact .inr ⟨f, rfl⟩
  · rename_i v s' h
    split
    · rename_i f h'; exact .inr ⟨f, rfl⟩
    · rename_i s'' h'; exact .inl ⟨v, s', s'', h, h', rfl⟩

/-- An M instruction under `standard` is its register write (R9). -/
theorem mulDiv_standard {s : State} (h : s.execM = .standard) (i : Instr) (op : Word → Word → Word) (rd rs1 rs2 : XReg) :
    mulDiv i op rd rs1 rs2 s = retire s rd (op (s.readX rs1) (s.readX rs2)) := by
  simp only [mulDiv, h]

/-- An M instruction under `unimplemented` raises (R9, R119). -/
theorem mulDiv_unimplemented {s : State} (h : s.execM = .unimplemented) (i : Instr) (op : Word → Word → Word)
    (rd rs1 rs2 : XReg) : mulDiv i op rd rs1 rs2 s = .fault (.execute (.unimplemented (.instr i))) := by
  simp only [mulDiv, h]; rfl

/-- An A instruction under `plain` is its plain accesses (R10). -/
theorem atomic_plain {s : State} (h : s.execA = .plain) (i : Instr)
    (p : State → Host.Outcome State Fault Refusal) : atomic i p s = p s := by
  simp only [atomic, h]

/-- An A instruction under `unimplemented` raises (R10, R119). -/
theorem atomic_unimplemented {s : State} (h : s.execA = .unimplemented) (i : Instr)
    (p : State → Host.Outcome State Fault Refusal) :
    atomic i p s = .fault (.execute (.unimplemented (.instr i))) := by
  simp only [atomic, h]; rfl

end Sys2Proof.Machine
end

