-- ==== Sys2Proof/Laws/PerInstr.lean ====
section
/-! SUPPORT. What the host asks of every instruction: its encoding has, in every fixed field of its row of
opcode_table.json, the value the row gives that field. -/

namespace Sys2Proof.Laws.EncodeFitsRow

set_option Elab.async false

/-- The word of an instruction fits the instruction's row of opcode_table.json. -/
def Statement (i : Instr) : Prop := ∀ f ∈ i.fixedFields, f.holdsOf (encode i)

/-! ## A fixed field as a field of the layout -/

variable {v : Nat} {w : InstrWord}

theorem holds_opcode : (⟨0, 7, v⟩ : FixedField).holdsOf w ↔ (opcodeOf w).toNat = v := Iff.rfl
theorem holds_funct3 : (⟨12, 3, v⟩ : FixedField).holdsOf w ↔ (funct3Of w).toNat = v := Iff.rfl
theorem holds_funct7 : (⟨25, 7, v⟩ : FixedField).holdsOf w ↔ (funct7Of w).toNat = v := Iff.rfl
theorem holds_func6 : (⟨26, 6, v⟩ : FixedField).holdsOf w ↔ (func6Of w).toNat = v := Iff.rfl
theorem holds_func5 : (⟨27, 5, v⟩ : FixedField).holdsOf w ↔ (func5Of w).toNat = v := Iff.rfl
theorem holds_rs2 : (⟨20, 5, v⟩ : FixedField).holdsOf w ↔ (rs2Of w).toNat = v := Iff.rfl
theorem holds_fmt : (⟨25, 2, v⟩ : FixedField).holdsOf w ↔ (fmtOf w).toNat = v := Iff.rfl
theorem holds_high : (⟨20, 12, v⟩ : FixedField).holdsOf w ↔ (imm12Of w).toNat = v := Iff.rfl

/-- The func5 of the AMO layout. -/
theorem amo_func5 (f : BitVec 5) (aq rl : Bool) : (f ++ BitVec.ofBool aq ++ BitVec.ofBool rl).extractLsb' 2 5 = f :=
  slice_of (n := 5 + 1 + 1) rfl (x := f ++ BitVec.ofBool aq ++ BitVec.ofBool rl)
    (by simp (disch := decide) only [BitVec.extractLsb'_append_eq_of_le, BitVec.extractLsb'_eq_self, Nat.reduceSub])

/-- The format of the R4 layout. -/
theorem r4_fmt (r : BitVec 5) (f : BitVec 2) : (r ++ f).extractLsb' 0 2 = f :=
  slice_of (n := 5 + 2) rfl (x := r ++ f)
    (by simp (disch := decide) only [BitVec.extractLsb'_append_eq_of_add_le, BitVec.extractLsb'_eq_self])

/-! ## The instructions -/

theorem lui (rd : XReg) (imm : Word) : Statement (.lui rd imm) := by
  simp [Statement, Instr.fixedFields, encode, holds_opcode]

theorem auipc (rd : XReg) (imm : Word) : Statement (.auipc rd imm) := by
  simp [Statement, Instr.fixedFields, encode, holds_opcode]

theorem jal (rd : XReg) (imm : Word) : Statement (.jal rd imm) := by
  simp [Statement, Instr.fixedFields, encode, holds_opcode]

theorem jalr (rd : XReg) (rs1 : XReg) (imm : Word) : Statement (.jalr rd rs1 imm) := by
  simp [Statement, Instr.fixedFields, encode, holds_opcode, holds_funct3]

theorem beq (rs1 : XReg) (rs2 : XReg) (imm : Word) : Statement (.beq rs1 rs2 imm) := by
  simp [Statement, Instr.fixedFields, encode, encB, holds_opcode, holds_funct3]

theorem bne (rs1 : XReg) (rs2 : XReg) (imm : Word) : Statement (.bne rs1 rs2 imm) := by
  simp [Statement, Instr.fixedFields, encode, encB, holds_opcode, holds_funct3]

theorem blt (rs1 : XReg) (rs2 : XReg) (imm : Word) : Statement (.blt rs1 rs2 imm) := by
  simp [Statement, Instr.fixedFields, encode, encB, holds_opcode, holds_funct3]

theorem bge (rs1 : XReg) (rs2 : XReg) (imm : Word) : Statement (.bge rs1 rs2 imm) := by
  simp [Statement, Instr.fixedFields, encode, encB, holds_opcode, holds_funct3]

theorem bltu (rs1 : XReg) (rs2 : XReg) (imm : Word) : Statement (.bltu rs1 rs2 imm) := by
  simp [Statement, Instr.fixedFields, encode, encB, holds_opcode, holds_funct3]

theorem bgeu (rs1 : XReg) (rs2 : XReg) (imm : Word) : Statement (.bgeu rs1 rs2 imm) := by
  simp [Statement, Instr.fixedFields, encode, encB, holds_opcode, holds_funct3]

theorem lb (rd : XReg) (rs1 : XReg) (imm : Word) : Statement (.lb rd rs1 imm) := by
  simp [Statement, Instr.fixedFields, encode, holds_opcode, holds_funct3]

theorem lh (rd : XReg) (rs1 : XReg) (imm : Word) : Statement (.lh rd rs1 imm) := by
  simp [Statement, Instr.fixedFields, encode, holds_opcode, holds_funct3]

theorem lw (rd : XReg) (rs1 : XReg) (imm : Word) : Statement (.lw rd rs1 imm) := by
  simp [Statement, Instr.fixedFields, encode, holds_opcode, holds_funct3]

theorem ld (rd : XReg) (rs1 : XReg) (imm : Word) : Statement (.ld rd rs1 imm) := by
  simp [Statement, Instr.fixedFields, encode, holds_opcode, holds_funct3]

theorem lbu (rd : XReg) (rs1 : XReg) (imm : Word) : Statement (.lbu rd rs1 imm) := by
  simp [Statement, Instr.fixedFields, encode, holds_opcode, holds_funct3]

theorem lhu (rd : XReg) (rs1 : XReg) (imm : Word) : Statement (.lhu rd rs1 imm) := by
  simp [Statement, Instr.fixedFields, encode, holds_opcode, holds_funct3]

theorem lwu (rd : XReg) (rs1 : XReg) (imm : Word) : Statement (.lwu rd rs1 imm) := by
  simp [Statement, Instr.fixedFields, encode, holds_opcode, holds_funct3]

theorem sb (rs1 : XReg) (rs2 : XReg) (imm : Word) : Statement (.sb rs1 rs2 imm) := by
  simp [Statement, Instr.fixedFields, encode, encS, holds_opcode, holds_funct3]

theorem sh (rs1 : XReg) (rs2 : XReg) (imm : Word) : Statement (.sh rs1 rs2 imm) := by
  simp [Statement, Instr.fixedFields, encode, encS, holds_opcode, holds_funct3]

theorem sw (rs1 : XReg) (rs2 : XReg) (imm : Word) : Statement (.sw rs1 rs2 imm) := by
  simp [Statement, Instr.fixedFields, encode, encS, holds_opcode, holds_funct3]

theorem sd (rs1 : XReg) (rs2 : XReg) (imm : Word) : Statement (.sd rs1 rs2 imm) := by
  simp [Statement, Instr.fixedFields, encode, encS, holds_opcode, holds_funct3]

theorem addi (rd : XReg) (rs1 : XReg) (imm : Word) : Statement (.addi rd rs1 imm) := by
  simp [Statement, Instr.fixedFields, encode, holds_opcode, holds_funct3]

theorem slti (rd : XReg) (rs1 : XReg) (imm : Word) : Statement (.slti rd rs1 imm) := by
  simp [Statement, Instr.fixedFields, encode, holds_opcode, holds_funct3]

theorem sltiu (rd : XReg) (rs1 : XReg) (imm : Word) : Statement (.sltiu rd rs1 imm) := by
  simp [Statement, Instr.fixedFields, encode, holds_opcode, holds_funct3]

theorem xori (rd : XReg) (rs1 : XReg) (imm : Word) : Statement (.xori rd rs1 imm) := by
  simp [Statement, Instr.fixedFields, encode, holds_opcode, holds_funct3]

theorem ori (rd : XReg) (rs1 : XReg) (imm : Word) : Statement (.ori rd rs1 imm) := by
  simp [Statement, Instr.fixedFields, encode, holds_opcode, holds_funct3]

theorem andi (rd : XReg) (rs1 : XReg) (imm : Word) : Statement (.andi rd rs1 imm) := by
  simp [Statement, Instr.fixedFields, encode, holds_opcode, holds_funct3]

theorem slli (rd : XReg) (rs1 : XReg) (shamt : BitVec 6) : Statement (.slli rd rs1 shamt) := by
  simp [Statement, Instr.fixedFields, encode, holds_opcode, holds_funct3, holds_func6]

theorem srli (rd : XReg) (rs1 : XReg) (shamt : BitVec 6) : Statement (.srli rd rs1 shamt) := by
  simp [Statement, Instr.fixedFields, encode, holds_opcode, holds_funct3, holds_func6]

theorem srai (rd : XReg) (rs1 : XReg) (shamt : BitVec 6) : Statement (.srai rd rs1 shamt) := by
  simp [Statement, Instr.fixedFields, encode, holds_opcode, holds_funct3, holds_func6]

theorem add (rd : XReg) (rs1 : XReg) (rs2 : XReg) : Statement (.add rd rs1 rs2) := by
  simp [Statement, Instr.fixedFields, encode, holds_opcode, holds_funct3, holds_funct7]

theorem sub (rd : XReg) (rs1 : XReg) (rs2 : XReg) : Statement (.sub rd rs1 rs2) := by
  simp [Statement, Instr.fixedFields, encode, holds_opcode, holds_funct3, holds_funct7]

theorem sll (rd : XReg) (rs1 : XReg) (rs2 : XReg) : Statement (.sll rd rs1 rs2) := by
  simp [Statement, Instr.fixedFields, encode, holds_opcode, holds_funct3, holds_funct7]

theorem slt (rd : XReg) (rs1 : XReg) (rs2 : XReg) : Statement (.slt rd rs1 rs2) := by
  simp [Statement, Instr.fixedFields, encode, holds_opcode, holds_funct3, holds_funct7]

theorem sltu (rd : XReg) (rs1 : XReg) (rs2 : XReg) : Statement (.sltu rd rs1 rs2) := by
  simp [Statement, Instr.fixedFields, encode, holds_opcode, holds_funct3, holds_funct7]

theorem xor (rd : XReg) (rs1 : XReg) (rs2 : XReg) : Statement (.xor rd rs1 rs2) := by
  simp [Statement, Instr.fixedFields, encode, holds_opcode, holds_funct3, holds_funct7]

theorem srl (rd : XReg) (rs1 : XReg) (rs2 : XReg) : Statement (.srl rd rs1 rs2) := by
  simp [Statement, Instr.fixedFields, encode, holds_opcode, holds_funct3, holds_funct7]

theorem sra (rd : XReg) (rs1 : XReg) (rs2 : XReg) : Statement (.sra rd rs1 rs2) := by
  simp [Statement, Instr.fixedFields, encode, holds_opcode, holds_funct3, holds_funct7]

theorem or (rd : XReg) (rs1 : XReg) (rs2 : XReg) : Statement (.or rd rs1 rs2) := by
  simp [Statement, Instr.fixedFields, encode, holds_opcode, holds_funct3, holds_funct7]

theorem and (rd : XReg) (rs1 : XReg) (rs2 : XReg) : Statement (.and rd rs1 rs2) := by
  simp [Statement, Instr.fixedFields, encode, holds_opcode, holds_funct3, holds_funct7]

theorem addiw (rd : XReg) (rs1 : XReg) (imm : Word) : Statement (.addiw rd rs1 imm) := by
  simp [Statement, Instr.fixedFields, encode, holds_opcode, holds_funct3]

theorem slliw (rd : XReg) (rs1 : XReg) (shamt : BitVec 5) : Statement (.slliw rd rs1 shamt) := by
  simp [Statement, Instr.fixedFields, encode, holds_opcode, holds_funct3, holds_funct7]

theorem srliw (rd : XReg) (rs1 : XReg) (shamt : BitVec 5) : Statement (.srliw rd rs1 shamt) := by
  simp [Statement, Instr.fixedFields, encode, holds_opcode, holds_funct3, holds_funct7]

theorem sraiw (rd : XReg) (rs1 : XReg) (shamt : BitVec 5) : Statement (.sraiw rd rs1 shamt) := by
  simp [Statement, Instr.fixedFields, encode, holds_opcode, holds_funct3, holds_funct7]

theorem addw (rd : XReg) (rs1 : XReg) (rs2 : XReg) : Statement (.addw rd rs1 rs2) := by
  simp [Statement, Instr.fixedFields, encode, holds_opcode, holds_funct3, holds_funct7]

theorem subw (rd : XReg) (rs1 : XReg) (rs2 : XReg) : Statement (.subw rd rs1 rs2) := by
  simp [Statement, Instr.fixedFields, encode, holds_opcode, holds_funct3, holds_funct7]

theorem sllw (rd : XReg) (rs1 : XReg) (rs2 : XReg) : Statement (.sllw rd rs1 rs2) := by
  simp [Statement, Instr.fixedFields, encode, holds_opcode, holds_funct3, holds_funct7]

theorem srlw (rd : XReg) (rs1 : XReg) (rs2 : XReg) : Statement (.srlw rd rs1 rs2) := by
  simp [Statement, Instr.fixedFields, encode, holds_opcode, holds_funct3, holds_funct7]

theorem sraw (rd : XReg) (rs1 : XReg) (rs2 : XReg) : Statement (.sraw rd rs1 rs2) := by
  simp [Statement, Instr.fixedFields, encode, holds_opcode, holds_funct3, holds_funct7]

theorem pause : Statement .pause := by
  unfold Statement
  decide

theorem fence (fm : BitVec 4) (pred : BitVec 4) (succ : BitVec 4) (rs1 : XReg) (rd : XReg) :
    Statement (.fence fm pred succ rs1 rd) := by
  simp [Statement, Instr.fixedFields, encode, holds_opcode, holds_funct3]

theorem fenceI (rd : XReg) (rs1 : XReg) (imm : Word) : Statement (.fenceI rd rs1 imm) := by
  simp [Statement, Instr.fixedFields, encode, holds_opcode, holds_funct3]

theorem ecall : Statement .ecall := by
  unfold Statement
  decide

theorem ebreak : Statement .ebreak := by
  unfold Statement
  decide

theorem mul (rd : XReg) (rs1 : XReg) (rs2 : XReg) : Statement (.mul rd rs1 rs2) := by
  simp [Statement, Instr.fixedFields, encode, holds_opcode, holds_funct3, holds_funct7]

theorem mulh (rd : XReg) (rs1 : XReg) (rs2 : XReg) : Statement (.mulh rd rs1 rs2) := by
  simp [Statement, Instr.fixedFields, encode, holds_opcode, holds_funct3, holds_funct7]

theorem mulhsu (rd : XReg) (rs1 : XReg) (rs2 : XReg) : Statement (.mulhsu rd rs1 rs2) := by
  simp [Statement, Instr.fixedFields, encode, holds_opcode, holds_funct3, holds_funct7]

theorem mulhu (rd : XReg) (rs1 : XReg) (rs2 : XReg) : Statement (.mulhu rd rs1 rs2) := by
  simp [Statement, Instr.fixedFields, encode, holds_opcode, holds_funct3, holds_funct7]

theorem div (rd : XReg) (rs1 : XReg) (rs2 : XReg) : Statement (.div rd rs1 rs2) := by
  simp [Statement, Instr.fixedFields, encode, holds_opcode, holds_funct3, holds_funct7]

theorem divu (rd : XReg) (rs1 : XReg) (rs2 : XReg) : Statement (.divu rd rs1 rs2) := by
  simp [Statement, Instr.fixedFields, encode, holds_opcode, holds_funct3, holds_funct7]

theorem rem (rd : XReg) (rs1 : XReg) (rs2 : XReg) : Statement (.rem rd rs1 rs2) := by
  simp [Statement, Instr.fixedFields, encode, holds_opcode, holds_funct3, holds_funct7]

theorem remu (rd : XReg) (rs1 : XReg) (rs2 : XReg) : Statement (.remu rd rs1 rs2) := by
  simp [Statement, Instr.fixedFields, encode, holds_opcode, holds_funct3, holds_funct7]

theorem mulw (rd : XReg) (rs1 : XReg) (rs2 : XReg) : Statement (.mulw rd rs1 rs2) := by
  simp [Statement, Instr.fixedFields, encode, holds_opcode, holds_funct3, holds_funct7]

theorem divw (rd : XReg) (rs1 : XReg) (rs2 : XReg) : Statement (.divw rd rs1 rs2) := by
  simp [Statement, Instr.fixedFields, encode, holds_opcode, holds_funct3, holds_funct7]

theorem divuw (rd : XReg) (rs1 : XReg) (rs2 : XReg) : Statement (.divuw rd rs1 rs2) := by
  simp [Statement, Instr.fixedFields, encode, holds_opcode, holds_funct3, holds_funct7]

theorem remw (rd : XReg) (rs1 : XReg) (rs2 : XReg) : Statement (.remw rd rs1 rs2) := by
  simp [Statement, Instr.fixedFields, encode, holds_opcode, holds_funct3, holds_funct7]

theorem remuw (rd : XReg) (rs1 : XReg) (rs2 : XReg) : Statement (.remuw rd rs1 rs2) := by
  simp [Statement, Instr.fixedFields, encode, holds_opcode, holds_funct3, holds_funct7]

theorem lrW (rd : XReg) (rs1 : XReg) (aq : Bool) (rl : Bool) : Statement (.lrW rd rs1 aq rl) := by
  simp [Statement, Instr.fixedFields, encode, encAmo, holds_opcode, holds_funct3, holds_rs2, holds_func5, amo_func5]

theorem scW (rd : XReg) (rs1 : XReg) (rs2 : XReg) (aq : Bool) (rl : Bool) : Statement (.scW rd rs1 rs2 aq rl) := by
  simp [Statement, Instr.fixedFields, encode, encAmo, holds_opcode, holds_funct3, holds_func5, amo_func5]

theorem amoswapW (rd : XReg) (rs1 : XReg) (rs2 : XReg) (aq : Bool) (rl : Bool) :
    Statement (.amoswapW rd rs1 rs2 aq rl) := by
  simp [Statement, Instr.fixedFields, encode, encAmo, holds_opcode, holds_funct3, holds_func5, amo_func5]

theorem amoaddW (rd : XReg) (rs1 : XReg) (rs2 : XReg) (aq : Bool) (rl : Bool) :
    Statement (.amoaddW rd rs1 rs2 aq rl) := by
  simp [Statement, Instr.fixedFields, encode, encAmo, holds_opcode, holds_funct3, holds_func5, amo_func5]

theorem amoxorW (rd : XReg) (rs1 : XReg) (rs2 : XReg) (aq : Bool) (rl : Bool) :
    Statement (.amoxorW rd rs1 rs2 aq rl) := by
  simp [Statement, Instr.fixedFields, encode, encAmo, holds_opcode, holds_funct3, holds_func5, amo_func5]

theorem amoandW (rd : XReg) (rs1 : XReg) (rs2 : XReg) (aq : Bool) (rl : Bool) :
    Statement (.amoandW rd rs1 rs2 aq rl) := by
  simp [Statement, Instr.fixedFields, encode, encAmo, holds_opcode, holds_funct3, holds_func5, amo_func5]

theorem amoorW (rd : XReg) (rs1 : XReg) (rs2 : XReg) (aq : Bool) (rl : Bool) :
    Statement (.amoorW rd rs1 rs2 aq rl) := by
  simp [Statement, Instr.fixedFields, encode, encAmo, holds_opcode, holds_funct3, holds_func5, amo_func5]

theorem amominW (rd : XReg) (rs1 : XReg) (rs2 : XReg) (aq : Bool) (rl : Bool) :
    Statement (.amominW rd rs1 rs2 aq rl) := by
  simp [Statement, Instr.fixedFields, encode, encAmo, holds_opcode, holds_funct3, holds_func5, amo_func5]

theorem amomaxW (rd : XReg) (rs1 : XReg) (rs2 : XReg) (aq : Bool) (rl : Bool) :
    Statement (.amomaxW rd rs1 rs2 aq rl) := by
  simp [Statement, Instr.fixedFields, encode, encAmo, holds_opcode, holds_funct3, holds_func5, amo_func5]

theorem amominuW (rd : XReg) (rs1 : XReg) (rs2 : XReg) (aq : Bool) (rl : Bool) :
    Statement (.amominuW rd rs1 rs2 aq rl) := by
  simp [Statement, Instr.fixedFields, encode, encAmo, holds_opcode, holds_funct3, holds_func5, amo_func5]

theorem amomaxuW (rd : XReg) (rs1 : XReg) (rs2 : XReg) (aq : Bool) (rl : Bool) :
    Statement (.amomaxuW rd rs1 rs2 aq rl) := by
  simp [Statement, Instr.fixedFields, encode, encAmo, holds_opcode, holds_funct3, holds_func5, amo_func5]

theorem lrD (rd : XReg) (rs1 : XReg) (aq : Bool) (rl : Bool) : Statement (.lrD rd rs1 aq rl) := by
  simp [Statement, Instr.fixedFields, encode, encAmo, holds_opcode, holds_funct3, holds_rs2, holds_func5, amo_func5]

theorem scD (rd : XReg) (rs1 : XReg) (rs2 : XReg) (aq : Bool) (rl : Bool) : Statement (.scD rd rs1 rs2 aq rl) := by
  simp [Statement, Instr.fixedFields, encode, encAmo, holds_opcode, holds_funct3, holds_func5, amo_func5]

theorem amoswapD (rd : XReg) (rs1 : XReg) (rs2 : XReg) (aq : Bool) (rl : Bool) :
    Statement (.amoswapD rd rs1 rs2 aq rl) := by
  simp [Statement, Instr.fixedFields, encode, encAmo, holds_opcode, holds_funct3, holds_func5, amo_func5]

theorem amoaddD (rd : XReg) (rs1 : XReg) (rs2 : XReg) (aq : Bool) (rl : Bool) :
    Statement (.amoaddD rd rs1 rs2 aq rl) := by
  simp [Statement, Instr.fixedFields, encode, encAmo, holds_opcode, holds_funct3, holds_func5, amo_func5]

theorem amoxorD (rd : XReg) (rs1 : XReg) (rs2 : XReg) (aq : Bool) (rl : Bool) :
    Statement (.amoxorD rd rs1 rs2 aq rl) := by
  simp [Statement, Instr.fixedFields, encode, encAmo, holds_opcode, holds_funct3, holds_func5, amo_func5]

theorem amoandD (rd : XReg) (rs1 : XReg) (rs2 : XReg) (aq : Bool) (rl : Bool) :
    Statement (.amoandD rd rs1 rs2 aq rl) := by
  simp [Statement, Instr.fixedFields, encode, encAmo, holds_opcode, holds_funct3, holds_func5, amo_func5]

theorem amoorD (rd : XReg) (rs1 : XReg) (rs2 : XReg) (aq : Bool) (rl : Bool) :
    Statement (.amoorD rd rs1 rs2 aq rl) := by
  simp [Statement, Instr.fixedFields, encode, encAmo, holds_opcode, holds_funct3, holds_func5, amo_func5]

theorem amominD (rd : XReg) (rs1 : XReg) (rs2 : XReg) (aq : Bool) (rl : Bool) :
    Statement (.amominD rd rs1 rs2 aq rl) := by
  simp [Statement, Instr.fixedFields, encode, encAmo, holds_opcode, holds_funct3, holds_func5, amo_func5]

theorem amomaxD (rd : XReg) (rs1 : XReg) (rs2 : XReg) (aq : Bool) (rl : Bool) :
    Statement (.amomaxD rd rs1 rs2 aq rl) := by
  simp [Statement, Instr.fixedFields, encode, encAmo, holds_opcode, holds_funct3, holds_func5, amo_func5]

theorem amominuD (rd : XReg) (rs1 : XReg) (rs2 : XReg) (aq : Bool) (rl : Bool) :
    Statement (.amominuD rd rs1 rs2 aq rl) := by
  simp [Statement, Instr.fixedFields, encode, encAmo, holds_opcode, holds_funct3, holds_func5, amo_func5]

theorem amomaxuD (rd : XReg) (rs1 : XReg) (rs2 : XReg) (aq : Bool) (rl : Bool) :
    Statement (.amomaxuD rd rs1 rs2 aq rl) := by
  simp [Statement, Instr.fixedFields, encode, encAmo, holds_opcode, holds_funct3, holds_func5, amo_func5]

theorem flw (rd : FReg) (rs1 : XReg) (imm : Word) : Statement (.flw rd rs1 imm) := by
  simp [Statement, Instr.fixedFields, encode, holds_opcode, holds_funct3]

theorem fsw (rs1 : XReg) (rs2 : FReg) (imm : Word) : Statement (.fsw rs1 rs2 imm) := by
  simp [Statement, Instr.fixedFields, encode, encS, holds_opcode, holds_funct3]

theorem fmaddS (rd : FReg) (rs1 : FReg) (rs2 : FReg) (rs3 : FReg) (rm : RoundingMode) :
    Statement (.fmaddS rd rs1 rs2 rs3 rm) := by
  simp [Statement, Instr.fixedFields, encode, encR4, holds_opcode, holds_fmt, r4_fmt]

theorem fmsubS (rd : FReg) (rs1 : FReg) (rs2 : FReg) (rs3 : FReg) (rm : RoundingMode) :
    Statement (.fmsubS rd rs1 rs2 rs3 rm) := by
  simp [Statement, Instr.fixedFields, encode, encR4, holds_opcode, holds_fmt, r4_fmt]

theorem fnmsubS (rd : FReg) (rs1 : FReg) (rs2 : FReg) (rs3 : FReg) (rm : RoundingMode) :
    Statement (.fnmsubS rd rs1 rs2 rs3 rm) := by
  simp [Statement, Instr.fixedFields, encode, encR4, holds_opcode, holds_fmt, r4_fmt]

theorem fnmaddS (rd : FReg) (rs1 : FReg) (rs2 : FReg) (rs3 : FReg) (rm : RoundingMode) :
    Statement (.fnmaddS rd rs1 rs2 rs3 rm) := by
  simp [Statement, Instr.fixedFields, encode, encR4, holds_opcode, holds_fmt, r4_fmt]

theorem faddS (rd : FReg) (rs1 : FReg) (rs2 : FReg) (rm : RoundingMode) : Statement (.faddS rd rs1 rs2 rm) := by
  simp [Statement, Instr.fixedFields, encode, holds_opcode, holds_funct7]

theorem fsubS (rd : FReg) (rs1 : FReg) (rs2 : FReg) (rm : RoundingMode) : Statement (.fsubS rd rs1 rs2 rm) := by
  simp [Statement, Instr.fixedFields, encode, holds_opcode, holds_funct7]

theorem fmulS (rd : FReg) (rs1 : FReg) (rs2 : FReg) (rm : RoundingMode) : Statement (.fmulS rd rs1 rs2 rm) := by
  simp [Statement, Instr.fixedFields, encode, holds_opcode, holds_funct7]

theorem fdivS (rd : FReg) (rs1 : FReg) (rs2 : FReg) (rm : RoundingMode) : Statement (.fdivS rd rs1 rs2 rm) := by
  simp [Statement, Instr.fixedFields, encode, holds_opcode, holds_funct7]

theorem fsqrtS (rd : FReg) (rs1 : FReg) (rm : RoundingMode) : Statement (.fsqrtS rd rs1 rm) := by
  simp [Statement, Instr.fixedFields, encode, holds_opcode, holds_high, encR_high]

theorem fsgnjS (rd : FReg) (rs1 : FReg) (rs2 : FReg) : Statement (.fsgnjS rd rs1 rs2) := by
  simp [Statement, Instr.fixedFields, encode, holds_opcode, holds_funct3, holds_funct7]

theorem fsgnjnS (rd : FReg) (rs1 : FReg) (rs2 : FReg) : Statement (.fsgnjnS rd rs1 rs2) := by
  simp [Statement, Instr.fixedFields, encode, holds_opcode, holds_funct3, holds_funct7]

theorem fsgnjxS (rd : FReg) (rs1 : FReg) (rs2 : FReg) : Statement (.fsgnjxS rd rs1 rs2) := by
  simp [Statement, Instr.fixedFields, encode, holds_opcode, holds_funct3, holds_funct7]

theorem fminS (rd : FReg) (rs1 : FReg) (rs2 : FReg) : Statement (.fminS rd rs1 rs2) := by
  simp [Statement, Instr.fixedFields, encode, holds_opcode, holds_funct3, holds_funct7]

theorem fmaxS (rd : FReg) (rs1 : FReg) (rs2 : FReg) : Statement (.fmaxS rd rs1 rs2) := by
  simp [Statement, Instr.fixedFields, encode, holds_opcode, holds_funct3, holds_funct7]

theorem fcvtSD (rd : FReg) (rs1 : FReg) (rm : RoundingMode) : Statement (.fcvtSD rd rs1 rm) := by
  simp [Statement, Instr.fixedFields, encode, holds_opcode, holds_high, encR_high]

theorem feqS (rd : XReg) (rs1 : FReg) (rs2 : FReg) : Statement (.feqS rd rs1 rs2) := by
  simp [Statement, Instr.fixedFields, encode, holds_opcode, holds_funct3, holds_funct7]

theorem fltS (rd : XReg) (rs1 : FReg) (rs2 : FReg) : Statement (.fltS rd rs1 rs2) := by
  simp [Statement, Instr.fixedFields, encode, holds_opcode, holds_funct3, holds_funct7]

theorem fleS (rd : XReg) (rs1 : FReg) (rs2 : FReg) : Statement (.fleS rd rs1 rs2) := by
  simp [Statement, Instr.fixedFields, encode, holds_opcode, holds_funct3, holds_funct7]

theorem fclassS (rd : XReg) (rs1 : FReg) : Statement (.fclassS rd rs1) := by
  simp [Statement, Instr.fixedFields, encode, holds_opcode, holds_funct3, holds_high, encR_high]

theorem fcvtWS (rd : XReg) (rs1 : FReg) (rm : RoundingMode) : Statement (.fcvtWS rd rs1 rm) := by
  simp [Statement, Instr.fixedFields, encode, holds_opcode, holds_high, encR_high]

theorem fcvtWuS (rd : XReg) (rs1 : FReg) (rm : RoundingMode) : Statement (.fcvtWuS rd rs1 rm) := by
  simp [Statement, Instr.fixedFields, encode, holds_opcode, holds_high, encR_high]

theorem fcvtLS (rd : XReg) (rs1 : FReg) (rm : RoundingMode) : Statement (.fcvtLS rd rs1 rm) := by
  simp [Statement, Instr.fixedFields, encode, holds_opcode, holds_high, encR_high]

theorem fcvtLuS (rd : XReg) (rs1 : FReg) (rm : RoundingMode) : Statement (.fcvtLuS rd rs1 rm) := by
  simp [Statement, Instr.fixedFields, encode, holds_opcode, holds_high, encR_high]

theorem fcvtSW (rd : FReg) (rs1 : XReg) (rm : RoundingMode) : Statement (.fcvtSW rd rs1 rm) := by
  simp [Statement, Instr.fixedFields, encode, holds_opcode, holds_high, encR_high]

theorem fcvtSWu (rd : FReg) (rs1 : XReg) (rm : RoundingMode) : Statement (.fcvtSWu rd rs1 rm) := by
  simp [Statement, Instr.fixedFields, encode, holds_opcode, holds_high, encR_high]

theorem fcvtSL (rd : FReg) (rs1 : XReg) (rm : RoundingMode) : Statement (.fcvtSL rd rs1 rm) := by
  simp [Statement, Instr.fixedFields, encode, holds_opcode, holds_high, encR_high]

theorem fcvtSLu (rd : FReg) (rs1 : XReg) (rm : RoundingMode) : Statement (.fcvtSLu rd rs1 rm) := by
  simp [Statement, Instr.fixedFields, encode, holds_opcode, holds_high, encR_high]

theorem fmvXW (rd : XReg) (rs1 : FReg) : Statement (.fmvXW rd rs1) := by
  simp [Statement, Instr.fixedFields, encode, holds_opcode, holds_funct3, holds_high, encR_high]

theorem fmvWX (rd : FReg) (rs1 : XReg) : Statement (.fmvWX rd rs1) := by
  simp [Statement, Instr.fixedFields, encode, holds_opcode, holds_funct3, holds_high, encR_high]

theorem fld (rd : FReg) (rs1 : XReg) (imm : Word) : Statement (.fld rd rs1 imm) := by
  simp [Statement, Instr.fixedFields, encode, holds_opcode, holds_funct3]

theorem fsd (rs1 : XReg) (rs2 : FReg) (imm : Word) : Statement (.fsd rs1 rs2 imm) := by
  simp [Statement, Instr.fixedFields, encode, encS, holds_opcode, holds_funct3]

theorem fmaddD (rd : FReg) (rs1 : FReg) (rs2 : FReg) (rs3 : FReg) (rm : RoundingMode) :
    Statement (.fmaddD rd rs1 rs2 rs3 rm) := by
  simp [Statement, Instr.fixedFields, encode, encR4, holds_opcode, holds_fmt, r4_fmt]

theorem fmsubD (rd : FReg) (rs1 : FReg) (rs2 : FReg) (rs3 : FReg) (rm : RoundingMode) :
    Statement (.fmsubD rd rs1 rs2 rs3 rm) := by
  simp [Statement, Instr.fixedFields, encode, encR4, holds_opcode, holds_fmt, r4_fmt]

theorem fnmsubD (rd : FReg) (rs1 : FReg) (rs2 : FReg) (rs3 : FReg) (rm : RoundingMode) :
    Statement (.fnmsubD rd rs1 rs2 rs3 rm) := by
  simp [Statement, Instr.fixedFields, encode, encR4, holds_opcode, holds_fmt, r4_fmt]

theorem fnmaddD (rd : FReg) (rs1 : FReg) (rs2 : FReg) (rs3 : FReg) (rm : RoundingMode) :
    Statement (.fnmaddD rd rs1 rs2 rs3 rm) := by
  simp [Statement, Instr.fixedFields, encode, encR4, holds_opcode, holds_fmt, r4_fmt]

theorem faddD (rd : FReg) (rs1 : FReg) (rs2 : FReg) (rm : RoundingMode) : Statement (.faddD rd rs1 rs2 rm) := by
  simp [Statement, Instr.fixedFields, encode, holds_opcode, holds_funct7]

theorem fsubD (rd : FReg) (rs1 : FReg) (rs2 : FReg) (rm : RoundingMode) : Statement (.fsubD rd rs1 rs2 rm) := by
  simp [Statement, Instr.fixedFields, encode, holds_opcode, holds_funct7]

theorem fmulD (rd : FReg) (rs1 : FReg) (rs2 : FReg) (rm : RoundingMode) : Statement (.fmulD rd rs1 rs2 rm) := by
  simp [Statement, Instr.fixedFields, encode, holds_opcode, holds_funct7]

theorem fdivD (rd : FReg) (rs1 : FReg) (rs2 : FReg) (rm : RoundingMode) : Statement (.fdivD rd rs1 rs2 rm) := by
  simp [Statement, Instr.fixedFields, encode, holds_opcode, holds_funct7]

theorem fsqrtD (rd : FReg) (rs1 : FReg) (rm : RoundingMode) : Statement (.fsqrtD rd rs1 rm) := by
  simp [Statement, Instr.fixedFields, encode, holds_opcode, holds_high, encR_high]

theorem fsgnjD (rd : FReg) (rs1 : FReg) (rs2 : FReg) : Statement (.fsgnjD rd rs1 rs2) := by
  simp [Statement, Instr.fixedFields, encode, holds_opcode, holds_funct3, holds_funct7]

theorem fsgnjnD (rd : FReg) (rs1 : FReg) (rs2 : FReg) : Statement (.fsgnjnD rd rs1 rs2) := by
  simp [Statement, Instr.fixedFields, encode, holds_opcode, holds_funct3, holds_funct7]

theorem fsgnjxD (rd : FReg) (rs1 : FReg) (rs2 : FReg) : Statement (.fsgnjxD rd rs1 rs2) := by
  simp [Statement, Instr.fixedFields, encode, holds_opcode, holds_funct3, holds_funct7]

theorem fminD (rd : FReg) (rs1 : FReg) (rs2 : FReg) : Statement (.fminD rd rs1 rs2) := by
  simp [Statement, Instr.fixedFields, encode, holds_opcode, holds_funct3, holds_funct7]

theorem fmaxD (rd : FReg) (rs1 : FReg) (rs2 : FReg) : Statement (.fmaxD rd rs1 rs2) := by
  simp [Statement, Instr.fixedFields, encode, holds_opcode, holds_funct3, holds_funct7]

theorem fcvtDS (rd : FReg) (rs1 : FReg) (rm : RoundingMode) : Statement (.fcvtDS rd rs1 rm) := by
  simp [Statement, Instr.fixedFields, encode, holds_opcode, holds_high, encR_high]

theorem feqD (rd : XReg) (rs1 : FReg) (rs2 : FReg) : Statement (.feqD rd rs1 rs2) := by
  simp [Statement, Instr.fixedFields, encode, holds_opcode, holds_funct3, holds_funct7]

theorem fltD (rd : XReg) (rs1 : FReg) (rs2 : FReg) : Statement (.fltD rd rs1 rs2) := by
  simp [Statement, Instr.fixedFields, encode, holds_opcode, holds_funct3, holds_funct7]

theorem fleD (rd : XReg) (rs1 : FReg) (rs2 : FReg) : Statement (.fleD rd rs1 rs2) := by
  simp [Statement, Instr.fixedFields, encode, holds_opcode, holds_funct3, holds_funct7]

theorem fclassD (rd : XReg) (rs1 : FReg) : Statement (.fclassD rd rs1) := by
  simp [Statement, Instr.fixedFields, encode, holds_opcode, holds_funct3, holds_high, encR_high]

theorem fcvtWD (rd : XReg) (rs1 : FReg) (rm : RoundingMode) : Statement (.fcvtWD rd rs1 rm) := by
  simp [Statement, Instr.fixedFields, encode, holds_opcode, holds_high, encR_high]

theorem fcvtWuD (rd : XReg) (rs1 : FReg) (rm : RoundingMode) : Statement (.fcvtWuD rd rs1 rm) := by
  simp [Statement, Instr.fixedFields, encode, holds_opcode, holds_high, encR_high]

theorem fcvtLD (rd : XReg) (rs1 : FReg) (rm : RoundingMode) : Statement (.fcvtLD rd rs1 rm) := by
  simp [Statement, Instr.fixedFields, encode, holds_opcode, holds_high, encR_high]

theorem fcvtLuD (rd : XReg) (rs1 : FReg) (rm : RoundingMode) : Statement (.fcvtLuD rd rs1 rm) := by
  simp [Statement, Instr.fixedFields, encode, holds_opcode, holds_high, encR_high]

theorem fcvtDW (rd : FReg) (rs1 : XReg) (rm : RoundingMode) : Statement (.fcvtDW rd rs1 rm) := by
  simp [Statement, Instr.fixedFields, encode, holds_opcode, holds_high, encR_high]

theorem fcvtDWu (rd : FReg) (rs1 : XReg) (rm : RoundingMode) : Statement (.fcvtDWu rd rs1 rm) := by
  simp [Statement, Instr.fixedFields, encode, holds_opcode, holds_high, encR_high]

theorem fcvtDL (rd : FReg) (rs1 : XReg) (rm : RoundingMode) : Statement (.fcvtDL rd rs1 rm) := by
  simp [Statement, Instr.fixedFields, encode, holds_opcode, holds_high, encR_high]

theorem fcvtDLu (rd : FReg) (rs1 : XReg) (rm : RoundingMode) : Statement (.fcvtDLu rd rs1 rm) := by
  simp [Statement, Instr.fixedFields, encode, holds_opcode, holds_high, encR_high]

theorem fmvXD (rd : XReg) (rs1 : FReg) : Statement (.fmvXD rd rs1) := by
  simp [Statement, Instr.fixedFields, encode, holds_opcode, holds_funct3, holds_high, encR_high]

theorem fmvDX (rd : FReg) (rs1 : XReg) : Statement (.fmvDX rd rs1) := by
  simp [Statement, Instr.fixedFields, encode, holds_opcode, holds_funct3, holds_high, encR_high]

end Sys2Proof.Laws.EncodeFitsRow
end

