-- ==== Sys2Proof/Laws/Values.lean ====
section
/-! SUPPORT. The little-endian values of spec 20_memory.md R47 as concatenations of bytes, and the bytes of a stored value
(R48). -/

namespace Sys2Proof.Machine

/-- The value of a concatenation. -/
theorem append_toNat {m n : Nat} (a : BitVec m) (b : BitVec n) : (a ++ b).toNat = a.toNat * 2 ^ n + b.toNat := by
  simp only [BitVec.toNat_append]
  rw [← Nat.shiftLeft_add_eq_or_of_lt b.isLt, Nat.shiftLeft_eq]

/-- Truncating a zero-extended value gives it back. -/
theorem setWidth_setWidth_self {m n : Nat} (h : m ≤ n) (v : BitVec m) : (v.setWidth n).setWidth m = v := by
  apply BitVec.eq_of_toNat_eq
  have h1 := v.isLt
  have h2 : 2 ^ m ≤ 2 ^ n := Nat.pow_le_pow_right (by decide) h
  rw [BitVec.toNat_setWidth, BitVec.toNat_setWidth, Nat.mod_eq_of_lt (by omega : v.toNat < 2 ^ n), Nat.mod_eq_of_lt h1]

/-- One byte read (R47). -/
theorem readBytes_byteAt (s : State) (a : Nat) :
    BitVec.ofNat 64 (packLittle (s.mem.readBytes a 1)) = (s.byteAt a).setWidth 64 := by
  apply BitVec.eq_of_toNat_eq
  simp [Memory.readBytes, packLittle, State.byteAt]

/-- Two bytes read (R47). -/
theorem readBytes_halfAt (s : State) (a : Nat) :
    BitVec.ofNat 64 (packLittle (s.mem.readBytes a 2)) = (s.halfAt a).setWidth 64 := by
  apply BitVec.eq_of_toNat_eq
  have h : (s.halfAt a).toNat = _ := append_toNat (s.byteAt (a + 1)) (s.byteAt a)
  simp only [Memory.readBytes, packLittle, BitVec.toNat_setWidth, BitVec.toNat_ofNat, h, State.byteAt]
  omega

/-- Four bytes read (R47). -/
theorem readBytes_wordAt (s : State) (a : Nat) :
    BitVec.ofNat 64 (packLittle (s.mem.readBytes a 4)) = (s.wordAt a).setWidth 64 := by
  apply BitVec.eq_of_toNat_eq
  have h : (s.wordAt a).toNat = _ :=
    append_toNat (m := 8 + 8 + 8) (s.byteAt (a + 3) ++ s.byteAt (a + 2) ++ s.byteAt (a + 1)) (s.byteAt a)
  simp only [append_toNat] at h
  simp only [Memory.readBytes, packLittle, BitVec.toNat_setWidth, BitVec.toNat_ofNat, h, State.byteAt, Nat.add_assoc,
    Nat.reduceAdd]
  omega

/-- Eight bytes read (R47). -/
theorem readBytes_doubleAt (s : State) (a : Nat) :
    BitVec.ofNat 64 (packLittle (s.mem.readBytes a 8)) = s.doubleAt a := by
  apply BitVec.eq_of_toNat_eq
  have h : (s.doubleAt a).toNat = _ :=
    append_toNat (m := 8 + 8 + 8 + 8 + 8 + 8 + 8)
      (s.byteAt (a + 7) ++ s.byteAt (a + 6) ++ s.byteAt (a + 5) ++ s.byteAt (a + 4) ++
        s.byteAt (a + 3) ++ s.byteAt (a + 2) ++ s.byteAt (a + 1)) (s.byteAt a)
  simp only [append_toNat] at h
  simp only [Memory.readBytes, packLittle, BitVec.toNat_ofNat, h, State.byteAt, Nat.add_assoc, Nat.reduceAdd]
  omega

/-- Byte `k` of a stored value is bits `8k+7:8k` (R48). -/
theorem unpackLittle_slice (n k : Nat) (v : Word) (h : k < n) :
    (unpackLittle n v.toNat)[k]? = some (v.extractLsb' (8 * k) 8) := by
  rw [unpackLittle_getElem? n v.toNat k h]
  congr 1
  apply BitVec.eq_of_toNat_eq
  simp [Nat.shiftRight_eq_div_pow, Nat.pow_mul]

end Sys2Proof.Machine
end

