-- ==== Sys2Proof/Laws/Rules.lean ====
section
/-! SUPPORT. Each shared shape of a meaning meets the rule shape of Sys2Proof/Safety.lean: what the provers cite for one
instruction after another. -/

namespace Sys2Proof.Machine

theorem completesWriting_of_retire {i : Instr} {s : State} {rd : XReg} {v w : Word} (h : exec i s = retire s rd w)
    (e : w = v) : CompletesWriting i s rd v := by
  subst e
  obtain ⟨t, ht, ho⟩ := retire_completes s rd w
  exact ⟨t, h.trans ht, ho⟩

theorem completesAt_of_branch {i : Instr} {s : State} {rs1 rs2 : XReg} {imm : Word} {c : Cond} {p : Prop} [Decidable p]
    (h : exec i s = branch c rs1 rs2 imm s) (e : Machine.cmp c (s.readX rs1) (s.readX rs2) = decide p) :
    CompletesAt i s (if p then s.pc + imm else s.pc + 4#64) := by
  obtain ⟨t, ht, ho⟩ := branch_completes c rs1 rs2 imm s
  refine ⟨t, h.trans ht, ?_⟩
  rw [e] at ho
  simpa using ho

theorem multipliesAs_mulDiv {i : Instr} {s : State} {rd rs1 rs2 : XReg} {v : Word} (op : Word → Word → Word)
    (h : exec i s = mulDiv i op rd rs1 rs2 s) (e : op (s.readX rs1) (s.readX rs2) = v) : MultipliesAs i s rd v :=
  ⟨fun hm => completesWriting_of_retire (h.trans (mulDiv_standard hm ..)) e,
    fun hm => h.trans (mulDiv_unimplemented hm ..)⟩

/-- A register write and the default advance after an access that left all but the device history as it was. -/
theorem onlyRegister_after {s s' : State} (h : s'.pc = s.pc) (rd : XReg) (v : Word) :
    OnlyRegister s' (s'.writeX rd v).advance rd v (s.pc + 4#64) := by
  have := onlyRegister_advance s' rd v
  rwa [h] at this

theorem loadsAs_load {i : Instr} {s : State} {rd : XReg} {addr : Word} {n : Nat} {v : Word} {ext : Word → Word}
    (hn : IntWidth n) (h : exec i s = load n ext rd addr s)
    (hv : ext (BitVec.ofNat 64 (packLittle (s.mem.readBytes addr.toNat n))) = v) : LoadsAs i s rd addr n v ext := by
  refine ⟨fun hr => ?_, fun u s' hu => ?_, fun f hf => ?_⟩
  · rw [CompletesWriting, h]
    simp only [load, memRead_inRam hn hr]
    rw [← hv]
    exact retire_completes s rd _
  · rw [h]
    simp only [load, hu]
    exact ⟨_, rfl, onlyRegister_after (memRead_sameButLog hu).pc rd _⟩
  · rw [h]
    simp only [load, hf]
    rfl

theorem loadsFromDevice_load {i : Instr} {s : State} {rd : XReg} {addr : Word} {size id loc n : Nat} {ext : Word → Word}
    (hn : IntWidth n) (h : exec i s = load n ext rd addr s) (hr : resolve s.bus addr.toNat = .found (.external size id) loc) :
    LoadsFromDevice i s rd size id loc n ext := by
  unfold LoadsFromDevice
  split
  · rename_i bs s' hb
    obtain ⟨rfl, hl⟩ := externalRead_ok hb
    refine ⟨rfl, hl, ?_⟩
    rw [h]
    simp only [load, memRead_external hn hr, hb]
    exact ⟨_, rfl, onlyRegister_after (by rfl) rd _⟩
  · rename_i f hf
    rw [h]
    simp only [load, memRead_external hn hr, hf]
    rfl

/-- What a write inside a RAM in canonical form leaves (R48). -/
theorem onlyBytes_write {s : State} (hw : Memory.wf s.mem) (a n : Nat) (v : Word) :
    (∀ k, k < n → State.byteAt { s with mem := s.mem.writeBytes a (unpackLittle n v.toNat) } (a + k) =
        v.extractLsb' (8 * k) 8) ∧
      ∀ b, b < a ∨ a + n ≤ b →
        State.byteAt { s with mem := s.mem.writeBytes a (unpackLittle n v.toNat) } b = s.byteAt b := by
  refine ⟨fun k hk => ?_, fun b hb => ?_⟩
  · simp only [State.byteAt, Memory.read_writeBytes hw, if_pos (Nat.le_add_right a k), Nat.add_sub_cancel_left,
      unpackLittle_slice n k v hk]
  · simp only [State.byteAt, Memory.read_writeBytes hw]
    split
    · rw [List.getElem?_eq_none (by simp; omega)]
    · rfl

theorem storesAs_store {i : Instr} {s : State} {addr : Word} {n : Nat} {v : Word} (hn : IntWidth n)
    (h : exec i s = store n addr v s) : StoresAs i s addr n v := by
  refine ⟨fun hw hr => ?_, fun s' hu => ?_, fun f hf => ?_⟩
  · rw [CompletesStoring, h]
    simp only [store, memWrite_inRam hn hr]
    obtain ⟨h1, h2⟩ := onlyBytes_write hw addr.toNat n v
    exact ⟨_, rfl, fun _ => rfl, fun _ => rfl, rfl, h1, h2, ⟨rfl, rfl, rfl⟩, rfl⟩
  · rw [h]
    simp only [store, hu]
    refine ⟨_, rfl, ?_⟩
    have := onlyPc_advance s'
    rwa [(memWrite_frame hu).2.2.1] at this
  · rw [h]
    simp only [store, hf]
    rfl

theorem storesConditionallyAs {i : Instr} {s : State} {rd rs1 rs2 : XReg} {n : Nat} (hn : IntWidth n)
    (h : exec i s = storeConditional n rd rs1 rs2 s) :
    StoresConditionallyAs i s rd (s.readX rs1) n (s.readX rs2) := by
  refine ⟨fun hw hr => ?_, fun s' hu => ?_, fun f hf => ?_⟩
  · rw [CompletesStoringAndWriting, h]
    simp only [storeConditional, memWrite_inRam hn hr]
    obtain ⟨h1, h2⟩ := onlyBytes_write hw (s.readX rs1).toNat n (s.readX rs2)
    have ho := onlyRegister_after (s := s)
      (s' := { s with mem := s.mem.writeBytes (s.readX rs1).toNat (unpackLittle n (s.readX rs2).toNat) }) rfl rd 0#64
    exact ⟨_, rfl, ho.regs, ho.fregs, ho.pc, fun k hk => (ho.mem _).trans (h1 k hk), fun b hb => (ho.mem b).trans (h2 b hb),
      ⟨ho.platform.bus, ho.platform.execM, ho.platform.execA⟩, ho.devLog⟩
  · rw [h]
    simp only [storeConditional, hu]
    exact ⟨_, rfl, onlyRegister_after (memWrite_frame hu).2.2.1 rd _⟩
  · rw [h]
    simp only [storeConditional, hf]
    rfl

theorem updatesAs_amo {i : Instr} {s : State} {rd rs1 rs2 : XReg} {n : Nat} {op : AmoOp} {old : BitVec (8 * n)}
    {f : BitVec (8 * n) → BitVec (8 * n)} (hn : IntWidth n) (h : exec i s = amo n op rd rs1 rs2 s)
    (ho : (BitVec.ofNat 64 (packLittle (s.mem.readBytes (s.readX rs1).toNat n))).setWidth (8 * n) = old)
    (hf : ∀ o, amoResult op o ((s.readX rs2).setWidth (8 * n)) = f o) :
    UpdatesAs i s rd (s.readX rs1) n old f := by
  refine ⟨fun hw hr => ?_, fun u s' s'' hu hs => ?_, fun e he => ?_⟩
  · rw [CompletesStoringAndWriting, h]
    simp only [amo, memRead_inRam hn hr, ho, hf, memWrite_inRam hn hr]
    obtain ⟨h1, h2⟩ := onlyBytes_write hw (s.readX rs1).toNat n ((f old).setWidth 64)
    have hp := onlyRegister_after (s := s)
      (s' := { s with mem := s.mem.writeBytes (s.readX rs1).toNat (unpackLittle n ((f old).setWidth 64).toNat) })
      rfl rd (old.signExtend 64)
    refine ⟨_, rfl, ?_⟩
    rw [sextBytes, ho]
    exact ⟨hp.regs, hp.fregs, hp.pc, fun k hk => (hp.mem _).trans (h1 k hk), fun b hb => (hp.mem b).trans (h2 b hb),
      ⟨hp.platform.bus, hp.platform.execM, hp.platform.execA⟩, hp.devLog⟩
  · rw [h]
    simp only [amo, hu, hf, hs]
    exact ⟨_, rfl, onlyRegister_after ((memWrite_frame hs).2.2.1.trans (memRead_sameButLog hu).pc) rd _⟩
  · rw [h]
    obtain he | ⟨u, s', hu, he⟩ := he
    · simp only [amo, he]
      rfl
    · simp only [amo, hu, hf, he]
      rfl

theorem underExecA_atomic {i : Instr} {s : State} {p : State → Host.Outcome State Fault Refusal} {rule : Prop}
    (h : exec i s = atomic i p s) (hr : exec i s = p s → rule) : UnderExecA i s rule :=
  ⟨fun ha => hr (h.trans (atomic_plain ha i p)), fun ha => h.trans (atomic_unimplemented ha i p)⟩

end Sys2Proof.Machine
end

