-- ==== Sys2Proof/Laws/StepEffect.lean ====
section
/-! SUPPORT. Everything an instruction can do, said once: it answers a next state related to the state before by `Effect`, or
an execute fault; and what that says of a step. -/

namespace Sys2Proof.Machine

/-- What every next state has in common with the state before it: the f registers and the platform (R24, R37), and the
invariant if it held. -/
structure Effect (s t : State) : Prop where
  f : t.f = s.f
  bus : t.bus = s.bus
  execM : t.execM = s.execM
  execA : t.execA = s.execA
  inv : s.Inv → t.Inv

theorem Effect.refl (s : State) : Effect s s := ⟨rfl, rfl, rfl, rfl, id⟩

theorem Effect.trans {s t u : State} (h : Effect s t) (k : Effect t u) : Effect s u :=
  ⟨k.f.trans h.f, k.bus.trans h.bus, k.execM.trans h.execM, k.execA.trans h.execA, k.inv ∘ h.inv⟩

theorem effect_setPc (s : State) (pc : Word) : Effect s { s with pc := pc } :=
  ⟨rfl, rfl, rfl, rfl, fun h => ⟨h.canonical, h.busWf, h.owned, h.x0Slot⟩⟩

theorem effect_writeX (s : State) (rd : XReg) (v : Word) : Effect s (s.writeX rd v) := by
  refine ⟨by simp, by simp, by simp, by simp, fun h => ⟨by simpa using h.canonical, by simpa using h.busWf,
    by simpa using h.owned, ?_⟩⟩
  unfold State.writeX
  split
  · exact h.x0Slot
  · rename_i hne
    have h0 : rd.idx.toNat ≠ 0 := fun h0 => hne (BitVec.eq_of_toNat_eq h0)
    rw [Vector.getElem_set_ne _ _ h0]
    exact h.x0Slot

theorem effect_read {s t : State} {addr : Word} {n : Nat} {v : Word} (h : memRead s addr n = .ok (v, t)) : Effect s t :=
  have hs := memRead_sameButLog h
  ⟨hs.f, hs.bus, hs.execM, hs.execA, hs.inv⟩

theorem effect_write {s t : State} {addr : Word} {n : Nat} {v : Word} (h : memWrite s addr n v = .ok t) : Effect s t := by
  obtain ⟨-, hf, -, hb, hm, ha⟩ := memWrite_frame h
  exact ⟨hf, hb, hm, ha, fun hi => memWrite_inv hi h⟩

/-- What one instruction can do: a next state with its effect, the pc advanced by 4 unless `jumps`, or an execute fault. -/
def CanOnly (o : Host.Outcome State Fault Refusal) (s : State) (jumps : Prop) : Prop :=
  (∃ t, o = .next t ∧ Effect s t ∧ (t.pc = s.pc + 4#64 ∨ jumps)) ∨ ∃ e, o = .fault (.execute e)

theorem retire_canOnly (s : State) (rd : XReg) (v : Word) : CanOnly (retire s rd v) s False :=
  .inl ⟨_, rfl, (effect_writeX s rd v).trans (effect_setPc _ _), .inl (by simp)⟩

theorem branch_canOnly (c : Cond) (rs1 rs2 : XReg) (imm : Word) (s : State) : CanOnly (branch c rs1 rs2 imm s) s True := by
  unfold branch
  split
  · exact .inl ⟨_, rfl, effect_setPc s _, .inr trivial⟩
  · exact .inl ⟨_, rfl, effect_setPc s _, .inr trivial⟩

theorem load_canOnly (n : Nat) (ext : Word → Word) (rd : XReg) (addr : Word) (s : State) :
    CanOnly (load n ext rd addr s) s False := by
  rcases load_cases n ext rd addr s with ⟨v, s', h, e⟩ | ⟨f, -, e⟩
  · rw [e]
    exact .inl ⟨_, rfl, ((effect_read h).trans (effect_writeX s' rd _)).trans (effect_setPc _ _),
      .inl (by simp [(memRead_sameButLog h).pc])⟩
  · rw [e]
    exact .inr ⟨_, rfl⟩

theorem store_canOnly (n : Nat) (addr v : Word) (s : State) : CanOnly (store n addr v s) s False := by
  rcases store_cases n addr v s with ⟨s', h, e⟩ | ⟨f, -, e⟩
  · rw [e]
    exact .inl ⟨_, rfl, (effect_write h).trans (effect_setPc _ _), .inl (by simp [(memWrite_frame h).2.2.1])⟩
  · rw [e]
    exact .inr ⟨_, rfl⟩

theorem storeConditional_canOnly (n : Nat) (rd rs1 rs2 : XReg) (s : State) :
    CanOnly (storeConditional n rd rs1 rs2 s) s False := by
  rcases storeConditional_cases n rd rs1 rs2 s with ⟨s', h, e⟩ | ⟨f, -, e⟩
  · rw [e]
    exact .inl ⟨_, rfl, ((effect_write h).trans (effect_writeX s' rd _)).trans (effect_setPc _ _),
      .inl (by simp [(memWrite_frame h).2.2.1])⟩
  · rw [e]
    exact .inr ⟨_, rfl⟩

theorem amo_canOnly (n : Nat) (op : AmoOp) (rd rs1 rs2 : XReg) (s : State) : CanOnly (amo n op rd rs1 rs2 s) s False := by
  rcases amo_cases n op rd rs1 rs2 s with ⟨v, s', s'', hr, hw, e⟩ | ⟨f, e⟩
  · rw [e]
    exact .inl ⟨_, rfl, (((effect_read hr).trans (effect_write hw)).trans (effect_writeX s'' rd _)).trans (effect_setPc _ _),
      .inl (by simp [(memWrite_frame hw).2.2.1, (memRead_sameButLog hr).pc])⟩
  · rw [e]
    exact .inr ⟨_, rfl⟩

theorem mulDiv_canOnly (i : Instr) (op : Word → Word → Word) (rd rs1 rs2 : XReg) (s : State) :
    CanOnly (mulDiv i op rd rs1 rs2 s) s False := by
  cases h : s.execM with
  | standard => rw [mulDiv_standard h]; exact retire_canOnly s rd _
  | unimplemented => rw [mulDiv_unimplemented h]; exact .inr ⟨_, rfl⟩

theorem atomic_canOnly {i : Instr} {p : State → Host.Outcome State Fault Refusal} {s : State} (h : CanOnly (p s) s False) :
    CanOnly (atomic i p s) s False := by
  cases ha : s.execA with
  | plain => rw [atomic_plain ha]; exact h
  | unimplemented => rw [atomic_unimplemented ha]; exact .inr ⟨_, rfl⟩

theorem onlyAdvance_canOnly (s : State) : CanOnly (onlyAdvance s) s False :=
  .inl ⟨_, rfl, effect_setPc s _, .inl rfl⟩

theorem unimplemented_canOnly (i : Instr) (s : State) : CanOnly (unimplemented i) s False := .inr ⟨_, rfl⟩

theorem CanOnly.mono {o : Host.Outcome State Fault Refusal} {s : State} {p q : Prop} (h : CanOnly o s p) (k : p → q) :
    CanOnly o s q := by
  rcases h with ⟨t, e, he, hp⟩ | hf
  · exact .inl ⟨t, e, he, hp.imp_right k⟩
  · exact .inr hf

/-- One instruction, whichever it is: a control transfer alone may leave the pc elsewhere than at `pc + 4` (R117). -/
theorem exec_canOnly (i : Instr) (s : State) : CanOnly (exec i s) s (i.kind = .control) := by
  cases i <;> first
    | exact (retire_canOnly s _ _).mono False.elim
    | exact (branch_canOnly _ _ _ _ s).mono fun _ => rfl
    | exact (load_canOnly _ _ _ _ s).mono False.elim
    | exact (store_canOnly _ _ _ s).mono False.elim
    | exact (onlyAdvance_canOnly s).mono False.elim
    | exact (mulDiv_canOnly _ _ _ _ _ s).mono False.elim
    | exact (unimplemented_canOnly _ s).mono False.elim
    | exact (atomic_canOnly (load_canOnly _ _ _ _ s)).mono False.elim
    | exact (atomic_canOnly (storeConditional_canOnly _ _ _ _ s)).mono False.elim
    | exact (atomic_canOnly (amo_canOnly _ _ _ _ _ s)).mono False.elim
    | exact .inl ⟨_, rfl, (effect_writeX s _ _).trans (effect_setPc _ _), .inr rfl⟩

/-- A step that answers a next state fetched a word, decoded it and ran it. -/
theorem step_next {s t : State} (h : step s = .next t) :
    ∃ w s' i, fetch s = .ok (w, s') ∧ decode w = .ok i ∧ exec i s' = .next t ∧ Effect s t := by
  rw [step] at h
  cases hf : fetch s with
  | error e => simp [hf] at h
  | ok p =>
    obtain ⟨w, s'⟩ := p
    simp only [hf] at h
    cases hd : decode w with
    | error d => simp [hd] at h
    | ok i =>
      simp only [hd] at h
      have hs := fetch_sameButLog hf
      rcases exec_canOnly i s' with ⟨u, hu, he, -⟩ | ⟨e, he⟩
      · rw [h] at hu
        cases hu
        exact ⟨w, s', i, rfl, hd, h, (⟨hs.f, hs.bus, hs.execM, hs.execA, hs.inv⟩ : Effect s s').trans he⟩
      · rw [h] at he
        cases he

end Sys2Proof.Machine
end

