-- ==== Sys2Proof/Tests/Slice0.lean ====
section
/-! SUPPORT. Tests: ill-formed terms refused, the Example words of spec 41 to 47 decoded, one step of each executing
instruction with the operands and results of spec 95_test_vectors.md, and a witness for the hypotheses of each statement. -/

set_option Elab.async false

namespace Sys2Proof.Tests

open Sys2Proof Sys2Proof.Machine

/-! ## Ill-formed instructions -/

theorem test_wf_refuses_i_immediate : (Instr.addi ⟨1#5⟩ ⟨2#5⟩ 2048#64).wf = false := by decide
theorem test_wf_refuses_s_immediate : (Instr.sd ⟨1#5⟩ ⟨2#5⟩ (-2049#64)).wf = false := by decide
theorem test_wf_refuses_odd_b_immediate : (Instr.beq ⟨1#5⟩ ⟨2#5⟩ 3#64).wf = false := by decide
theorem test_wf_refuses_far_b_immediate : (Instr.bgeu ⟨1#5⟩ ⟨2#5⟩ 4096#64).wf = false := by decide
theorem test_wf_refuses_low_u_bits : (Instr.lui ⟨1#5⟩ 0x12345001#64).wf = false := by decide
theorem test_wf_refuses_unsigned_u_immediate : (Instr.auipc ⟨1#5⟩ 0x80000000#64).wf = false := by decide
theorem test_wf_refuses_odd_j_immediate : (Instr.jal ⟨1#5⟩ 5#64).wf = false := by decide
theorem test_wf_refuses_far_j_immediate : (Instr.jal ⟨1#5⟩ 0x100000#64).wf = false := by decide
theorem test_wf_refuses_pause_as_fence : (Instr.fence 0#4 1#4 0#4 ⟨0#5⟩ ⟨0#5⟩).wf = false := by decide
theorem test_wf_refuses_named_invalid_rounding : (Instr.faddS ⟨1#5⟩ ⟨2#5⟩ ⟨3#5⟩ (.invalid 0b111#3)).wf = false := by decide

/-! ## Decoding: the Example word of every row, its bits cut at the fields of its format (spec 41 to 47, R65 to R73) -/

theorem test_decode_upper_immediate : ∀ p ∈ ([
    (0b00010010001101000101_00101_0110111#32, .lui ⟨5#5⟩ 0x12345000#64),
    (0b00000000000000000001_00101_0010111#32, .auipc ⟨5#5⟩ 0x1000#64)] : List (InstrWord × Instr)),
    decode p.1 = .ok p.2 ∧ encode p.2 = p.1 ∧ p.2.wf = true := by decide +kernel

theorem test_decode_jump : ∀ p ∈ ([
    (0b0_0010000000_0_00000000_00001_1101111#32, .jal ⟨1#5⟩ 0x100#64),
    (0b000000000000_00110_000_00001_1100111#32, .jalr ⟨1#5⟩ ⟨6#5⟩ 0x0#64)] : List (InstrWord × Instr)),
    decode p.1 = .ok p.2 ∧ encode p.2 = p.1 ∧ p.2.wf = true := by decide +kernel

theorem test_decode_branch : ∀ p ∈ ([
    (0b1_111111_00111_00110_000_1000_1_1100011#32, .beq ⟨6#5⟩ ⟨7#5⟩ 0xFFFFFFFFFFFFFFF0#64),
    (0b1_111111_00111_00110_001_1000_1_1100011#32, .bne ⟨6#5⟩ ⟨7#5⟩ 0xFFFFFFFFFFFFFFF0#64),
    (0b1_111111_00111_00110_100_1000_1_1100011#32, .blt ⟨6#5⟩ ⟨7#5⟩ 0xFFFFFFFFFFFFFFF0#64),
    (0b1_111111_00111_00110_101_1000_1_1100011#32, .bge ⟨6#5⟩ ⟨7#5⟩ 0xFFFFFFFFFFFFFFF0#64),
    (0b1_111111_00111_00110_110_1000_1_1100011#32, .bltu ⟨6#5⟩ ⟨7#5⟩ 0xFFFFFFFFFFFFFFF0#64),
    (0b1_111111_00111_00110_111_1000_1_1100011#32, .bgeu ⟨6#5⟩ ⟨7#5⟩ 0xFFFFFFFFFFFFFFF0#64)] : List (InstrWord × Instr)),
    decode p.1 = .ok p.2 ∧ encode p.2 = p.1 ∧ p.2.wf = true := by decide +kernel

theorem test_decode_load : ∀ p ∈ ([
    (0b000000000000_00110_000_00101_0000011#32, .lb ⟨5#5⟩ ⟨6#5⟩ 0x0#64),
    (0b000000000000_00110_001_00101_0000011#32, .lh ⟨5#5⟩ ⟨6#5⟩ 0x0#64),
    (0b000000000000_00110_010_00101_0000011#32, .lw ⟨5#5⟩ ⟨6#5⟩ 0x0#64),
    (0b000000000000_00110_011_00101_0000011#32, .ld ⟨5#5⟩ ⟨6#5⟩ 0x0#64),
    (0b000000000000_00110_100_00101_0000011#32, .lbu ⟨5#5⟩ ⟨6#5⟩ 0x0#64),
    (0b000000000000_00110_101_00101_0000011#32, .lhu ⟨5#5⟩ ⟨6#5⟩ 0x0#64),
    (0b000000000000_00110_110_00101_0000011#32, .lwu ⟨5#5⟩ ⟨6#5⟩ 0x0#64)] : List (InstrWord × Instr)),
    decode p.1 = .ok p.2 ∧ encode p.2 = p.1 ∧ p.2.wf = true := by decide +kernel

theorem test_decode_store : ∀ p ∈ ([
    (0b1111111_00111_00110_000_11000_0100011#32, .sb ⟨6#5⟩ ⟨7#5⟩ 0xFFFFFFFFFFFFFFF8#64),
    (0b1111111_00111_00110_001_11000_0100011#32, .sh ⟨6#5⟩ ⟨7#5⟩ 0xFFFFFFFFFFFFFFF8#64),
    (0b1111111_00111_00110_010_11000_0100011#32, .sw ⟨6#5⟩ ⟨7#5⟩ 0xFFFFFFFFFFFFFFF8#64),
    (0b1111111_00111_00110_011_11000_0100011#32, .sd ⟨6#5⟩ ⟨7#5⟩ 0xFFFFFFFFFFFFFFF8#64)] : List (InstrWord × Instr)),
    decode p.1 = .ok p.2 ∧ encode p.2 = p.1 ∧ p.2.wf = true := by decide +kernel

theorem test_decode_immediate : ∀ p ∈ ([
    (0b111111111001_00110_000_00101_0010011#32, .addi ⟨5#5⟩ ⟨6#5⟩ 0xFFFFFFFFFFFFFFF9#64),
    (0b000000000000_00110_010_00101_0010011#32, .slti ⟨5#5⟩ ⟨6#5⟩ 0x0#64),
    (0b111111111111_00110_011_00101_0010011#32, .sltiu ⟨5#5⟩ ⟨6#5⟩ 0xFFFFFFFFFFFFFFFF#64),
    (0b111111111111_00110_100_00101_0010011#32, .xori ⟨5#5⟩ ⟨6#5⟩ 0xFFFFFFFFFFFFFFFF#64),
    (0b000011110000_00110_110_00101_0010011#32, .ori ⟨5#5⟩ ⟨6#5⟩ 0xF0#64),
    (0b011111111111_00110_111_00101_0010011#32, .andi ⟨5#5⟩ ⟨6#5⟩ 0x7FF#64),
    (0b000000_111111_00110_001_00101_0010011#32, .slli ⟨5#5⟩ ⟨6#5⟩ 63#6),
    (0b000000_111100_00110_101_00101_0010011#32, .srli ⟨5#5⟩ ⟨6#5⟩ 60#6),
    (0b010000_111111_00110_101_00101_0010011#32, .srai ⟨5#5⟩ ⟨6#5⟩ 63#6)] : List (InstrWord × Instr)),
    decode p.1 = .ok p.2 ∧ encode p.2 = p.1 ∧ p.2.wf = true := by decide +kernel

theorem test_decode_register : ∀ p ∈ ([
    (0b0000000_00111_00110_000_00101_0110011#32, .add ⟨5#5⟩ ⟨6#5⟩ ⟨7#5⟩),
    (0b0100000_00111_00110_000_00101_0110011#32, .sub ⟨5#5⟩ ⟨6#5⟩ ⟨7#5⟩),
    (0b0000000_00111_00110_001_00101_0110011#32, .sll ⟨5#5⟩ ⟨6#5⟩ ⟨7#5⟩),
    (0b0000000_00111_00110_010_00101_0110011#32, .slt ⟨5#5⟩ ⟨6#5⟩ ⟨7#5⟩),
    (0b0000000_00111_00110_011_00101_0110011#32, .sltu ⟨5#5⟩ ⟨6#5⟩ ⟨7#5⟩),
    (0b0000000_00111_00110_100_00101_0110011#32, .xor ⟨5#5⟩ ⟨6#5⟩ ⟨7#5⟩),
    (0b0000000_00111_00110_101_00101_0110011#32, .srl ⟨5#5⟩ ⟨6#5⟩ ⟨7#5⟩),
    (0b0100000_00111_00110_101_00101_0110011#32, .sra ⟨5#5⟩ ⟨6#5⟩ ⟨7#5⟩),
    (0b0000000_00111_00110_110_00101_0110011#32, .or ⟨5#5⟩ ⟨6#5⟩ ⟨7#5⟩),
    (0b0000000_00111_00110_111_00101_0110011#32, .and ⟨5#5⟩ ⟨6#5⟩ ⟨7#5⟩)] : List (InstrWord × Instr)),
    decode p.1 = .ok p.2 ∧ encode p.2 = p.1 ∧ p.2.wf = true := by decide +kernel

theorem test_decode_word_immediate : ∀ p ∈ ([
    (0b000000000001_00110_000_00101_0011011#32, .addiw ⟨5#5⟩ ⟨6#5⟩ 0x1#64),
    (0b0000000_11111_00110_001_00101_0011011#32, .slliw ⟨5#5⟩ ⟨6#5⟩ 31#5),
    (0b0000000_11111_00110_101_00101_0011011#32, .srliw ⟨5#5⟩ ⟨6#5⟩ 31#5),
    (0b0100000_00100_00110_101_00101_0011011#32, .sraiw ⟨5#5⟩ ⟨6#5⟩ 4#5)] : List (InstrWord × Instr)),
    decode p.1 = .ok p.2 ∧ encode p.2 = p.1 ∧ p.2.wf = true := by decide +kernel

theorem test_decode_word_register : ∀ p ∈ ([
    (0b0000000_00111_00110_000_00101_0111011#32, .addw ⟨5#5⟩ ⟨6#5⟩ ⟨7#5⟩),
    (0b0100000_00111_00110_000_00101_0111011#32, .subw ⟨5#5⟩ ⟨6#5⟩ ⟨7#5⟩),
    (0b0000000_00111_00110_001_00101_0111011#32, .sllw ⟨5#5⟩ ⟨6#5⟩ ⟨7#5⟩),
    (0b0000000_00111_00110_101_00101_0111011#32, .srlw ⟨5#5⟩ ⟨6#5⟩ ⟨7#5⟩),
    (0b0100000_00111_00110_101_00101_0111011#32, .sraw ⟨5#5⟩ ⟨6#5⟩ ⟨7#5⟩)] : List (InstrWord × Instr)),
    decode p.1 = .ok p.2 ∧ encode p.2 = p.1 ∧ p.2.wf = true := by decide +kernel

theorem test_decode_fence : ∀ p ∈ ([
    (0b0000_0001_0000_00000_000_00000_0001111#32, .pause),
    (0b0000_0011_0011_00000_000_00000_0001111#32, .fence 0#4 3#4 3#4 ⟨0#5⟩ ⟨0#5⟩),
    (0b000000000000_00000_001_00000_0001111#32, .fenceI ⟨0#5⟩ ⟨0#5⟩ 0x0#64)] : List (InstrWord × Instr)),
    decode p.1 = .ok p.2 ∧ encode p.2 = p.1 ∧ p.2.wf = true := by decide +kernel

theorem test_decode_system : ∀ p ∈ ([
    (0b000000000000_00000_000_00000_1110011#32, .ecall),
    (0b000000000001_00000_000_00000_1110011#32, .ebreak)] : List (InstrWord × Instr)),
    decode p.1 = .ok p.2 ∧ encode p.2 = p.1 ∧ p.2.wf = true := by decide +kernel

theorem test_decode_multiply_divide : ∀ p ∈ ([
    (0b0000001_00111_00110_000_00101_0110011#32, .mul ⟨5#5⟩ ⟨6#5⟩ ⟨7#5⟩),
    (0b0000001_00111_00110_001_00101_0110011#32, .mulh ⟨5#5⟩ ⟨6#5⟩ ⟨7#5⟩),
    (0b0000001_00111_00110_010_00101_0110011#32, .mulhsu ⟨5#5⟩ ⟨6#5⟩ ⟨7#5⟩),
    (0b0000001_00111_00110_011_00101_0110011#32, .mulhu ⟨5#5⟩ ⟨6#5⟩ ⟨7#5⟩),
    (0b0000001_00111_00110_100_00101_0110011#32, .div ⟨5#5⟩ ⟨6#5⟩ ⟨7#5⟩),
    (0b0000001_00111_00110_101_00101_0110011#32, .divu ⟨5#5⟩ ⟨6#5⟩ ⟨7#5⟩),
    (0b0000001_00111_00110_110_00101_0110011#32, .rem ⟨5#5⟩ ⟨6#5⟩ ⟨7#5⟩),
    (0b0000001_00111_00110_111_00101_0110011#32, .remu ⟨5#5⟩ ⟨6#5⟩ ⟨7#5⟩),
    (0b0000001_00111_00110_000_00101_0111011#32, .mulw ⟨5#5⟩ ⟨6#5⟩ ⟨7#5⟩),
    (0b0000001_00111_00110_100_00101_0111011#32, .divw ⟨5#5⟩ ⟨6#5⟩ ⟨7#5⟩),
    (0b0000001_00111_00110_101_00101_0111011#32, .divuw ⟨5#5⟩ ⟨6#5⟩ ⟨7#5⟩),
    (0b0000001_00111_00110_110_00101_0111011#32, .remw ⟨5#5⟩ ⟨6#5⟩ ⟨7#5⟩),
    (0b0000001_00111_00110_111_00101_0111011#32, .remuw ⟨5#5⟩ ⟨6#5⟩ ⟨7#5⟩)] : List (InstrWord × Instr)),
    decode p.1 = .ok p.2 ∧ encode p.2 = p.1 ∧ p.2.wf = true := by decide +kernel

theorem test_decode_atomic_1 : ∀ p ∈ ([
    (0b00010_0_0_00000_00110_010_00101_0101111#32, .lrW ⟨5#5⟩ ⟨6#5⟩ false false),
    (0b00011_0_0_00111_00110_010_00101_0101111#32, .scW ⟨5#5⟩ ⟨6#5⟩ ⟨7#5⟩ false false),
    (0b00001_0_0_00111_00110_010_00101_0101111#32, .amoswapW ⟨5#5⟩ ⟨6#5⟩ ⟨7#5⟩ false false),
    (0b00000_0_0_00111_00110_010_00101_0101111#32, .amoaddW ⟨5#5⟩ ⟨6#5⟩ ⟨7#5⟩ false false),
    (0b00100_0_0_00111_00110_010_00101_0101111#32, .amoxorW ⟨5#5⟩ ⟨6#5⟩ ⟨7#5⟩ false false),
    (0b01100_0_0_00111_00110_010_00101_0101111#32, .amoandW ⟨5#5⟩ ⟨6#5⟩ ⟨7#5⟩ false false),
    (0b01000_0_0_00111_00110_010_00101_0101111#32, .amoorW ⟨5#5⟩ ⟨6#5⟩ ⟨7#5⟩ false false),
    (0b10000_0_0_00111_00110_010_00101_0101111#32, .amominW ⟨5#5⟩ ⟨6#5⟩ ⟨7#5⟩ false false),
    (0b10100_0_0_00111_00110_010_00101_0101111#32, .amomaxW ⟨5#5⟩ ⟨6#5⟩ ⟨7#5⟩ false false),
    (0b11000_0_0_00111_00110_010_00101_0101111#32, .amominuW ⟨5#5⟩ ⟨6#5⟩ ⟨7#5⟩ false false),
    (0b11100_0_0_00111_00110_010_00101_0101111#32, .amomaxuW ⟨5#5⟩ ⟨6#5⟩ ⟨7#5⟩ false false),
    (0b00010_0_0_00000_00110_011_00101_0101111#32, .lrD ⟨5#5⟩ ⟨6#5⟩ false false),
    (0b00011_0_0_00111_00110_011_00101_0101111#32, .scD ⟨5#5⟩ ⟨6#5⟩ ⟨7#5⟩ false false),
    (0b00001_0_0_00111_00110_011_00101_0101111#32, .amoswapD ⟨5#5⟩ ⟨6#5⟩ ⟨7#5⟩ false false),
    (0b00000_0_0_00111_00110_011_00101_0101111#32, .amoaddD ⟨5#5⟩ ⟨6#5⟩ ⟨7#5⟩ false false),
    (0b00100_0_0_00111_00110_011_00101_0101111#32, .amoxorD ⟨5#5⟩ ⟨6#5⟩ ⟨7#5⟩ false false)] : List (InstrWord × Instr)),
    decode p.1 = .ok p.2 ∧ encode p.2 = p.1 ∧ p.2.wf = true := by decide +kernel

theorem test_decode_atomic_2 : ∀ p ∈ ([
    (0b01100_0_0_00111_00110_011_00101_0101111#32, .amoandD ⟨5#5⟩ ⟨6#5⟩ ⟨7#5⟩ false false),
    (0b01000_0_0_00111_00110_011_00101_0101111#32, .amoorD ⟨5#5⟩ ⟨6#5⟩ ⟨7#5⟩ false false),
    (0b10000_0_0_00111_00110_011_00101_0101111#32, .amominD ⟨5#5⟩ ⟨6#5⟩ ⟨7#5⟩ false false),
    (0b10100_0_0_00111_00110_011_00101_0101111#32, .amomaxD ⟨5#5⟩ ⟨6#5⟩ ⟨7#5⟩ false false),
    (0b11000_0_0_00111_00110_011_00101_0101111#32, .amominuD ⟨5#5⟩ ⟨6#5⟩ ⟨7#5⟩ false false),
    (0b11100_0_0_00111_00110_011_00101_0101111#32, .amomaxuD ⟨5#5⟩ ⟨6#5⟩ ⟨7#5⟩ false false)] : List (InstrWord × Instr)),
    decode p.1 = .ok p.2 ∧ encode p.2 = p.1 ∧ p.2.wf = true := by decide +kernel

theorem test_decode_single_float_1 : ∀ p ∈ ([
    (0b000000001000_00010_010_00001_0000111#32, .flw ⟨1#5⟩ ⟨2#5⟩ 0x8#64),
    (0b0000000_00011_00010_010_01000_0100111#32, .fsw ⟨2#5⟩ ⟨3#5⟩ 0x8#64),
    (0b00100_00_00011_00010_000_00001_1000011#32, .fmaddS ⟨1#5⟩ ⟨2#5⟩ ⟨3#5⟩ ⟨4#5⟩ .rne),
    (0b00100_00_00011_00010_000_00001_1000111#32, .fmsubS ⟨1#5⟩ ⟨2#5⟩ ⟨3#5⟩ ⟨4#5⟩ .rne),
    (0b00100_00_00011_00010_000_00001_1001011#32, .fnmsubS ⟨1#5⟩ ⟨2#5⟩ ⟨3#5⟩ ⟨4#5⟩ .rne),
    (0b00100_00_00011_00010_000_00001_1001111#32, .fnmaddS ⟨1#5⟩ ⟨2#5⟩ ⟨3#5⟩ ⟨4#5⟩ .rne),
    (0b0000000_00011_00010_000_00001_1010011#32, .faddS ⟨1#5⟩ ⟨2#5⟩ ⟨3#5⟩ .rne),
    (0b0000100_00011_00010_000_00001_1010011#32, .fsubS ⟨1#5⟩ ⟨2#5⟩ ⟨3#5⟩ .rne),
    (0b0001000_00011_00010_000_00001_1010011#32, .fmulS ⟨1#5⟩ ⟨2#5⟩ ⟨3#5⟩ .rne),
    (0b0001100_00011_00010_000_00001_1010011#32, .fdivS ⟨1#5⟩ ⟨2#5⟩ ⟨3#5⟩ .rne),
    (0b0101100_00000_00010_000_00001_1010011#32, .fsqrtS ⟨1#5⟩ ⟨2#5⟩ .rne),
    (0b0010000_00011_00010_000_00001_1010011#32, .fsgnjS ⟨1#5⟩ ⟨2#5⟩ ⟨3#5⟩),
    (0b0010000_00011_00010_001_00001_1010011#32, .fsgnjnS ⟨1#5⟩ ⟨2#5⟩ ⟨3#5⟩),
    (0b0010000_00011_00010_010_00001_1010011#32, .fsgnjxS ⟨1#5⟩ ⟨2#5⟩ ⟨3#5⟩),
    (0b0010100_00011_00010_000_00001_1010011#32, .fminS ⟨1#5⟩ ⟨2#5⟩ ⟨3#5⟩),
    (0b0010100_00011_00010_001_00001_1010011#32, .fmaxS ⟨1#5⟩ ⟨2#5⟩ ⟨3#5⟩)] : List (InstrWord × Instr)),
    decode p.1 = .ok p.2 ∧ encode p.2 = p.1 ∧ p.2.wf = true := by decide +kernel

theorem test_decode_single_float_2 : ∀ p ∈ ([
    (0b1010000_00011_00010_010_00001_1010011#32, .feqS ⟨1#5⟩ ⟨2#5⟩ ⟨3#5⟩),
    (0b1010000_00011_00010_001_00001_1010011#32, .fltS ⟨1#5⟩ ⟨2#5⟩ ⟨3#5⟩),
    (0b1010000_00011_00010_000_00001_1010011#32, .fleS ⟨1#5⟩ ⟨2#5⟩ ⟨3#5⟩),
    (0b1110000_00000_00010_001_00001_1010011#32, .fclassS ⟨1#5⟩ ⟨2#5⟩),
    (0b1100000_00000_00010_000_00001_1010011#32, .fcvtWS ⟨1#5⟩ ⟨2#5⟩ .rne),
    (0b1100000_00001_00010_000_00001_1010011#32, .fcvtWuS ⟨1#5⟩ ⟨2#5⟩ .rne),
    (0b1100000_00010_00010_000_00001_1010011#32, .fcvtLS ⟨1#5⟩ ⟨2#5⟩ .rne),
    (0b1100000_00011_00010_000_00001_1010011#32, .fcvtLuS ⟨1#5⟩ ⟨2#5⟩ .rne),
    (0b1101000_00000_00010_000_00001_1010011#32, .fcvtSW ⟨1#5⟩ ⟨2#5⟩ .rne),
    (0b1101000_00001_00010_000_00001_1010011#32, .fcvtSWu ⟨1#5⟩ ⟨2#5⟩ .rne),
    (0b1101000_00010_00010_000_00001_1010011#32, .fcvtSL ⟨1#5⟩ ⟨2#5⟩ .rne),
    (0b1101000_00011_00010_000_00001_1010011#32, .fcvtSLu ⟨1#5⟩ ⟨2#5⟩ .rne),
    (0b1110000_00000_00010_000_00001_1010011#32, .fmvXW ⟨1#5⟩ ⟨2#5⟩),
    (0b1111000_00000_00010_000_00001_1010011#32, .fmvWX ⟨1#5⟩ ⟨2#5⟩)] : List (InstrWord × Instr)),
    decode p.1 = .ok p.2 ∧ encode p.2 = p.1 ∧ p.2.wf = true := by decide +kernel

theorem test_decode_double_float_1 : ∀ p ∈ ([
    (0b0100000_00001_00010_000_00001_1010011#32, .fcvtSD ⟨1#5⟩ ⟨2#5⟩ .rne),
    (0b000000001000_00010_011_00001_0000111#32, .fld ⟨1#5⟩ ⟨2#5⟩ 0x8#64),
    (0b0000000_00011_00010_011_01000_0100111#32, .fsd ⟨2#5⟩ ⟨3#5⟩ 0x8#64),
    (0b00100_01_00011_00010_000_00001_1000011#32, .fmaddD ⟨1#5⟩ ⟨2#5⟩ ⟨3#5⟩ ⟨4#5⟩ .rne),
    (0b00100_01_00011_00010_000_00001_1000111#32, .fmsubD ⟨1#5⟩ ⟨2#5⟩ ⟨3#5⟩ ⟨4#5⟩ .rne),
    (0b00100_01_00011_00010_000_00001_1001011#32, .fnmsubD ⟨1#5⟩ ⟨2#5⟩ ⟨3#5⟩ ⟨4#5⟩ .rne),
    (0b00100_01_00011_00010_000_00001_1001111#32, .fnmaddD ⟨1#5⟩ ⟨2#5⟩ ⟨3#5⟩ ⟨4#5⟩ .rne),
    (0b0000001_00011_00010_000_00001_1010011#32, .faddD ⟨1#5⟩ ⟨2#5⟩ ⟨3#5⟩ .rne),
    (0b0000101_00011_00010_000_00001_1010011#32, .fsubD ⟨1#5⟩ ⟨2#5⟩ ⟨3#5⟩ .rne),
    (0b0001001_00011_00010_000_00001_1010011#32, .fmulD ⟨1#5⟩ ⟨2#5⟩ ⟨3#5⟩ .rne),
    (0b0001101_00011_00010_000_00001_1010011#32, .fdivD ⟨1#5⟩ ⟨2#5⟩ ⟨3#5⟩ .rne),
    (0b0101101_00000_00010_000_00001_1010011#32, .fsqrtD ⟨1#5⟩ ⟨2#5⟩ .rne),
    (0b0010001_00011_00010_000_00001_1010011#32, .fsgnjD ⟨1#5⟩ ⟨2#5⟩ ⟨3#5⟩),
    (0b0010001_00011_00010_001_00001_1010011#32, .fsgnjnD ⟨1#5⟩ ⟨2#5⟩ ⟨3#5⟩),
    (0b0010001_00011_00010_010_00001_1010011#32, .fsgnjxD ⟨1#5⟩ ⟨2#5⟩ ⟨3#5⟩),
    (0b0010101_00011_00010_000_00001_1010011#32, .fminD ⟨1#5⟩ ⟨2#5⟩ ⟨3#5⟩)] : List (InstrWord × Instr)),
    decode p.1 = .ok p.2 ∧ encode p.2 = p.1 ∧ p.2.wf = true := by decide +kernel

theorem test_decode_double_float_2 : ∀ p ∈ ([
    (0b0010101_00011_00010_001_00001_1010011#32, .fmaxD ⟨1#5⟩ ⟨2#5⟩ ⟨3#5⟩),
    (0b0100001_00000_00010_000_00001_1010011#32, .fcvtDS ⟨1#5⟩ ⟨2#5⟩ .rne),
    (0b1010001_00011_00010_010_00001_1010011#32, .feqD ⟨1#5⟩ ⟨2#5⟩ ⟨3#5⟩),
    (0b1010001_00011_00010_001_00001_1010011#32, .fltD ⟨1#5⟩ ⟨2#5⟩ ⟨3#5⟩),
    (0b1010001_00011_00010_000_00001_1010011#32, .fleD ⟨1#5⟩ ⟨2#5⟩ ⟨3#5⟩),
    (0b1110001_00000_00010_001_00001_1010011#32, .fclassD ⟨1#5⟩ ⟨2#5⟩),
    (0b1100001_00000_00010_000_00001_1010011#32, .fcvtWD ⟨1#5⟩ ⟨2#5⟩ .rne),
    (0b1100001_00001_00010_000_00001_1010011#32, .fcvtWuD ⟨1#5⟩ ⟨2#5⟩ .rne),
    (0b1100001_00010_00010_000_00001_1010011#32, .fcvtLD ⟨1#5⟩ ⟨2#5⟩ .rne),
    (0b1100001_00011_00010_000_00001_1010011#32, .fcvtLuD ⟨1#5⟩ ⟨2#5⟩ .rne),
    (0b1101001_00000_00010_000_00001_1010011#32, .fcvtDW ⟨1#5⟩ ⟨2#5⟩ .rne),
    (0b1101001_00001_00010_000_00001_1010011#32, .fcvtDWu ⟨1#5⟩ ⟨2#5⟩ .rne),
    (0b1101001_00010_00010_000_00001_1010011#32, .fcvtDL ⟨1#5⟩ ⟨2#5⟩ .rne),
    (0b1101001_00011_00010_000_00001_1010011#32, .fcvtDLu ⟨1#5⟩ ⟨2#5⟩ .rne),
    (0b1110001_00000_00010_000_00001_1010011#32, .fmvXD ⟨1#5⟩ ⟨2#5⟩),
    (0b1111001_00000_00010_000_00001_1010011#32, .fmvDX ⟨1#5⟩ ⟨2#5⟩)] : List (InstrWord × Instr)),
    decode p.1 = .ok p.2 ∧ encode p.2 = p.1 ∧ p.2.wf = true := by decide +kernel

/-- Words that select no format or no variant (spec 95_test_vectors.md section 2). -/
theorem test_decode_faults : ∀ p ∈ ([
    (0x00000000#32, .noFormat 0b0000000#7),
    (0xFFFFFFFF#32, .noFormat 0b1111111#7),
    (0x0000000B#32, .noFormat 0b0001011#7),
    (0x00000001#32, .noFormat 0b0000001#7),
    (0x00000057#32, .noFormat 0b1010111#7),
    (0x40031293#32, .noVariant 0b0010011#7 (.i 0b001#3 5#5 6#5 0x0000000000000400#64)),
    (0x0203129B#32, .noVariant 0b0011011#7 (.i 0b001#3 5#5 6#5 0x0000000000000020#64)),
    (0x4200D01B#32, .noVariant 0b0011011#7 (.i 0b101#3 0#5 1#5 0x0000000000000420#64)),
    (0x00037283#32, .noVariant 0b0000011#7 (.i 0b111#3 5#5 6#5 0x0000000000000000#64)),
    (0x00734023#32, .noVariant 0b0100011#7 (.s 0b100#3 6#5 7#5 0x0000000000000000#64)),
    (0x00732063#32, .noVariant 0b1100011#7 (.b 0b010#3 6#5 7#5 0x0000000000000000#64)),
    (0x00001067#32, .noVariant 0b1100111#7 (.i 0b001#3 0#5 0#5 0x0000000000000000#64)),
    (0x40001033#32, .noVariant 0b0110011#7 (.r 0b001#3 0#5 0#5 0#5 0b0100000#7)),
    (0x06000033#32, .noVariant 0b0110011#7 (.r 0b000#3 0#5 0#5 0#5 0b0000011#7)),
    (0x0000203B#32, .noVariant 0b0111011#7 (.r 0b010#3 0#5 0#5 0#5 0b0000000#7)),
    (0x07F01013#32, .noVariant 0b0010011#7 (.i 0b001#3 0#5 0#5 0x000000000000007F#64)),
    (0x0000200F#32, .noVariant 0b0001111#7 (.i 0b010#3 0#5 0#5 0x0000000000000000#64)),
    (0x000000F3#32, .noVariant 0b1110011#7 (.i 0b000#3 1#5 0#5 0x0000000000000000#64)),
    (0x00200073#32, .noVariant 0b1110011#7 (.i 0b000#3 0#5 0#5 0x0000000000000002#64)),
    (0x300292F3#32, .noVariant 0b1110011#7 (.i 0b001#3 5#5 5#5 0x0000000000000300#64)),
    (0xC0002573#32, .noVariant 0b1110011#7 (.i 0b010#3 10#5 0#5 0xFFFFFFFFFFFFFC00#64)),
    (0x30200073#32, .noVariant 0b1110011#7 (.i 0b000#3 0#5 0#5 0x0000000000000302#64)),
    (0x10500073#32, .noVariant 0b1110011#7 (.i 0b000#3 0#5 0#5 0x0000000000000105#64)),
    (0x101322AF#32, .noVariant 0b0101111#7 (.r 0b010#3 5#5 6#5 1#5 0b0001000#7)),
    (0x280322AF#32, .noVariant 0b0101111#7 (.r 0b010#3 5#5 6#5 0#5 0b0010100#7)),
    (0x000302AF#32, .noVariant 0b0101111#7 (.r 0b000#3 5#5 6#5 0#5 0b0000000#7)),
    (0x043100D3#32, .noVariant 0b1010011#7 (.r 0b000#3 1#5 2#5 3#5 0b0000010#7)),
    (0x58100053#32, .noVariant 0b1010011#7 (.r 0b000#3 0#5 0#5 1#5 0b0101100#7)),
    (0x20003053#32, .noVariant 0b1010011#7 (.r 0b011#3 0#5 0#5 0#5 0b0010000#7)),
    (0x40000053#32, .noVariant 0b1010011#7 (.r 0b000#3 0#5 0#5 0#5 0b0100000#7)),
    (0x00004007#32, .noVariant 0b0000111#7 (.i 0b100#3 0#5 0#5 0x0000000000000000#64)),
    (0x04000043#32, .noVariant 0b1000011#7 (.r 0b000#3 0#5 0#5 0#5 0b0000010#7))] : List (InstrWord × DecodeFault)),
    decode p.1 = .error p.2 := by decide +kernel

/-- FENCE.I with non-zero fields: rd and rs1 as section 2 writes them, and the immediate its row names (log entry 12). -/
theorem test_decode_fenceI_fields : decode 0x1233128F#32 = .ok (.fenceI ⟨5#5⟩ ⟨6#5⟩ 0x123#64) := by decide +kernel

/-- A word the table numbers is the word stored (R61, R62). -/
theorem test_decodeTableWord : decodeTableWord 32 0x00730333 = some (.add ⟨6#5⟩ ⟨6#5⟩ ⟨7#5⟩) := by decide +kernel

/-! ## One step of each instruction (spec 95_test_vectors.md sections 3 to 9) -/

/-- A state of the reference platform with the given pc, registers and bytes, and a word to fetch. -/
def before (pc : Nat) (regs : List (Nat × Nat)) (bytes : List (Nat × Nat)) (w : Nat) : State :=
  let s := { State.reset with pc := BitVec.ofNat 64 pc }
  let s := regs.foldl (fun (s : State) (r : Nat × Nat) => s.writeX ⟨BitVec.ofNat 5 r.1⟩ (BitVec.ofNat 64 r.2)) s
  let s := { s with mem := bytes.foldl (fun (m : Memory) (c : Nat × Nat) => Memory.write m c.1 (BitVec.ofNat 8 c.2)) s.mem }
  s.withFetchWord 32 w

/-- The pc, one register and the eight bytes at an address after a step that succeeds. -/
def after (o : Host.Outcome State Fault Refusal) (r a : Nat) : Option (Nat × Nat × Nat) :=
  match o with
  | .next t => some (t.pc.toNat, (t.readX ⟨BitVec.ofNat 5 r⟩).toNat, (t.doubleAt a).toNat)
  | .fault _ => none
  | .refused _ => none

/-- The fault a step ends in. -/
def faultOf (o : Host.Outcome State Fault Refusal) : Option Fault :=
  match o with
  | .next _ => none
  | .fault f => some f
  | .refused _ => none

theorem faultOf_fault {o : Host.Outcome State Fault Refusal} {f : Fault} (h : faultOf o = some f) : o = .fault f := by
  cases o <;> simp_all [faultOf]

/-- The bytes 81 82 ... 88 at 0x2000 (spec 95_test_vectors.md section 5). -/
def ramp : List (Nat × Nat) :=
  [(0x2000, 0x81), (0x2001, 0x82), (0x2002, 0x83), (0x2003, 0x84), (0x2004, 0x85), (0x2005, 0x86), (0x2006, 0x87), (0x2007, 0x88)]

/-- The doubleword 0xFFFFFFFF80000001 at 0x2000 (spec 46_atomic.md). -/
def cell : List (Nat × Nat) :=
  [(0x2000, 0x01), (0x2003, 0x80), (0x2004, 0xFF), (0x2005, 0xFF), (0x2006, 0xFF), (0x2007, 0xFF)]

theorem test_step_lui :
    after (step (before 0x1000 [(6, 0x0), (7, 0x0)] [] 0x123452B7)) 5 0x8000 = some (0x1004, 0x12345000, 0) ∧
    after (step (before 0x1000 [(6, 0x0), (7, 0x0)] [] 0xFFFFF2B7)) 5 0x8000 = some (0x1004, 0xFFFFFFFFFFFFF000, 0) := by decide +kernel

theorem test_step_auipc :
    after (step (before 0x1000 [(6, 0x0), (7, 0x0)] [] 0x00001297)) 5 0x8000 = some (0x1004, 0x2000, 0) ∧
    after (step (before 0x1000 [(6, 0x0), (7, 0x0)] [] 0x80000297)) 5 0x8000 = some (0x1004, 0xFFFFFFFF80001000, 0) := by decide +kernel

theorem test_step_jal :
    after (step (before 0x1000 [] [] 0x001000EF)) 1 0x8000 = some (0x1800, 0x1004, 0) ∧
    after (step (before 0xFFFFFFFFFFFFFFFC [] [] 0x008000EF)) 1 0x8000 = some (0x4, 0x0, 0) := by decide +kernel

theorem test_step_jalr :
    after (step (before 0x1000 [(6, 0x2001)] [] 0x000300E7)) 1 0x8000 = some (0x2000, 0x1004, 0) ∧
    after (step (before 0x1000 [(1, 0x1234)] [] 0x00008067)) 6 0x8000 = some (0x1234, 0x0, 0) := by decide +kernel

theorem test_step_beq :
    after (step (before 0x1000 [(6, 0x5), (7, 0x5)] [] 0xFE7308E3)) 6 0x8000 = some (0xFF0, 0x5, 0) ∧
    after (step (before 0x4 [] [] 0xFE000CE3)) 6 0x8000 = some (0xFFFFFFFFFFFFFFFC, 0x0, 0) := by decide +kernel

theorem test_step_bne :
    after (step (before 0x1000 [(6, 0x5), (7, 0x5)] [] 0x02731063)) 6 0x8000 = some (0x1004, 0x5, 0) ∧
    after (step (before 0x0 [(6, 0x1)] [] 0xFE031EE3)) 6 0x8000 = some (0xFFFFFFFFFFFFFFFC, 0x1, 0) := by decide +kernel

theorem test_step_blt :
    after (step (before 0x1000 [(6, 0x5), (7, 0x5)] [] 0xFE7348E3)) 6 0x8000 = some (0x1004, 0x5, 0) ∧
    after (step (before 0x1000 [(6, 0x1), (7, 0xFFFFFFFFFFFFFFFF)] [] 0xFE7348E3)) 6 0x8000 = some (0x1004, 0x1, 0) := by decide +kernel

theorem test_step_bge :
    after (step (before 0x1000 [(6, 0x5), (7, 0x5)] [] 0x02735063)) 6 0x8000 = some (0x1020, 0x5, 0) ∧
    after (step (before 0x1000 [(6, 0x1), (7, 0xFFFFFFFFFFFFFFFF)] [] 0x02735063)) 6 0x8000 = some (0x1020, 0x1, 0) := by decide +kernel

theorem test_step_bltu :
    after (step (before 0x1000 [(6, 0x5), (7, 0x5)] [] 0xFE7368E3)) 6 0x8000 = some (0x1004, 0x5, 0) ∧
    after (step (before 0x1000 [(6, 0x1), (7, 0xFFFFFFFFFFFFFFFF)] [] 0xFE7368E3)) 6 0x8000 = some (0xFF0, 0x1, 0) := by decide +kernel

theorem test_step_bgeu :
    after (step (before 0x1000 [(6, 0x5), (7, 0x5)] [] 0x02737063)) 6 0x8000 = some (0x1020, 0x5, 0) ∧
    after (step (before 0x1000 [(6, 0x1), (7, 0xFFFFFFFFFFFFFFFF)] [] 0x02737063)) 6 0x8000 = some (0x1004, 0x1, 0) := by decide +kernel

theorem test_step_lb :
    after (step (before 0x1000 [(6, 0x2000)] ramp 0x00030283)) 5 0x2000 = some (0x1004, 0xFFFFFFFFFFFFFF81, 0x8887868584838281) ∧
    after (step (before 0x1000 [(6, 0x2000)] ramp 0x00730283)) 5 0x2000 = some (0x1004, 0xFFFFFFFFFFFFFF88, 0x8887868584838281) := by decide +kernel

theorem test_step_lh :
    after (step (before 0x1000 [(6, 0x2000)] ramp 0x00031283)) 5 0x2000 = some (0x1004, 0xFFFFFFFFFFFF8281, 0x8887868584838281) ∧
    after (step (before 0x1000 [(6, 0x2000)] ramp 0x00131283)) 5 0x2000 = some (0x1004, 0xFFFFFFFFFFFF8382, 0x8887868584838281) := by decide +kernel

theorem test_step_lw :
    after (step (before 0x1000 [(6, 0x2000)] ramp 0x00032283)) 5 0x2000 = some (0x1004, 0xFFFFFFFF84838281, 0x8887868584838281) ∧
    after (step (before 0x1000 [(6, 0x2000)] ramp 0x00332283)) 5 0x2000 = some (0x1004, 0xFFFFFFFF87868584, 0x8887868584838281) := by decide +kernel

theorem test_step_ld :
    after (step (before 0x1000 [(6, 0x2000)] ramp 0x00033283)) 5 0x2000 = some (0x1004, 0x8887868584838281, 0x8887868584838281) ∧
    after (step (before 0x1000 [(6, 0x2000)] ramp 0x00033303)) 6 0x2000 = some (0x1004, 0x8887868584838281, 0x8887868584838281) := by decide +kernel

theorem test_step_lbu :
    after (step (before 0x1000 [(6, 0x2000)] ramp 0x00034283)) 5 0x2000 = some (0x1004, 0x81, 0x8887868584838281) ∧
    after (step (before 0x1000 [(6, 0x2000)] ramp 0x80034283)) 5 0x2000 = some (0x1004, 0x0, 0x8887868584838281) := by decide +kernel

theorem test_step_lhu :
    after (step (before 0x1000 [(6, 0x2000)] ramp 0x00035283)) 5 0x2000 = some (0x1004, 0x8281, 0x8887868584838281) := by decide +kernel

theorem test_step_lwu :
    after (step (before 0x1000 [(6, 0x2000)] ramp 0x00036283)) 5 0x2000 = some (0x1004, 0x84838281, 0x8887868584838281) := by decide +kernel

theorem test_step_sb :
    after (step (before 0x1000 [(6, 0x2000), (7, 0x1122334455667788)] ramp 0x00730023)) 6 0x2000 = some (0x1004, 0x2000, 0x8887868584838288) := by decide +kernel

theorem test_step_sh :
    after (step (before 0x1000 [(6, 0x2000), (7, 0x1122334455667788)] ramp 0x00731023)) 6 0x2000 = some (0x1004, 0x2000, 0x8887868584837788) ∧
    after (step (before 0x1000 [(6, 0x2000), (7, 0x1122334455667788)] ramp 0x007313A3)) 6 0x2000 = some (0x1004, 0x2000, 0x8887868584838281) := by decide +kernel

theorem test_step_sw :
    after (step (before 0x1000 [(6, 0x2000), (7, 0x1122334455667788)] ramp 0x00732023)) 6 0x2000 = some (0x1004, 0x2000, 0x8887868555667788) ∧
    after (step (before 0x1000 [(6, 0x2000), (7, 0x1122334455667788)] ramp 0x007321A3)) 6 0x2000 = some (0x1004, 0x2000, 0x8855667788838281) := by decide +kernel

theorem test_step_sd :
    after (step (before 0x1000 [(6, 0x2000), (7, 0x1122334455667788)] ramp 0x00733023)) 6 0x2000 = some (0x1004, 0x2000, 0x1122334455667788) ∧
    after (step (before 0x1000 [(6, 0x2000)] ramp 0x00033023)) 6 0x2000 = some (0x1004, 0x2000, 0x0) := by decide +kernel

theorem test_step_addi :
    after (step (before 0x1000 [(6, 0x5), (7, 0x0)] [] 0xFFF30293)) 5 0x8000 = some (0x1004, 0x4, 0) ∧
    after (step (before 0x1000 [(6, 0x0), (7, 0x0)] [] 0x7FF30293)) 5 0x8000 = some (0x1004, 0x7FF, 0) := by decide +kernel

theorem test_step_slti :
    after (step (before 0x1000 [(6, 0xFFFFFFFFFFFFFFFF), (7, 0x0)] [] 0x00032293)) 5 0x8000 = some (0x1004, 0x1, 0) ∧
    after (step (before 0x1000 [(6, 0x8000000000000000), (7, 0x0)] [] 0x80032293)) 5 0x8000 = some (0x1004, 0x1, 0) := by decide +kernel

theorem test_step_sltiu :
    after (step (before 0x1000 [(6, 0x0), (7, 0x0)] [] 0x00133293)) 5 0x8000 = some (0x1004, 0x1, 0) ∧
    after (step (before 0x1000 [(6, 0xFFFFFFFFFFFFFFFF), (7, 0x0)] [] 0xFFF33293)) 5 0x8000 = some (0x1004, 0x0, 0) := by decide +kernel

theorem test_step_xori :
    after (step (before 0x1000 [(6, 0xFF), (7, 0x0)] [] 0xFFF34293)) 5 0x8000 = some (0x1004, 0xFFFFFFFFFFFFFF00, 0) := by decide +kernel

theorem test_step_ori :
    after (step (before 0x1000 [(6, 0x1000), (7, 0x0)] [] 0x80036293)) 5 0x8000 = some (0x1004, 0xFFFFFFFFFFFFF800, 0) := by decide +kernel

theorem test_step_andi :
    after (step (before 0x1000 [(6, 0xFFFFFFFFFFFFFFFF), (7, 0x0)] [] 0x7FF37293)) 5 0x8000 = some (0x1004, 0x7FF, 0) ∧
    after (step (before 0x1000 [(6, 0x12345), (7, 0x0)] [] 0xFF037293)) 5 0x8000 = some (0x1004, 0x12340, 0) := by decide +kernel

theorem test_step_slli :
    after (step (before 0x1000 [(6, 0x1), (7, 0x0)] [] 0x03F31293)) 5 0x8000 = some (0x1004, 0x8000000000000000, 0) ∧
    after (step (before 0x1000 [(6, 0xFFFFFFFF), (7, 0x0)] [] 0x02031293)) 5 0x8000 = some (0x1004, 0xFFFFFFFF00000000, 0) := by decide +kernel

theorem test_step_srli :
    after (step (before 0x1000 [(6, 0xFFFFFFFFFFFFFFFF), (7, 0x0)] [] 0x00135293)) 5 0x8000 = some (0x1004, 0x7FFFFFFFFFFFFFFF, 0) ∧
    after (step (before 0x1000 [(6, 0x8000000000000000), (7, 0x0)] [] 0x00035293)) 5 0x8000 = some (0x1004, 0x8000000000000000, 0) := by decide +kernel

theorem test_step_srai :
    after (step (before 0x1000 [(6, 0x8000000000000000), (7, 0x0)] [] 0x40135293)) 5 0x8000 = some (0x1004, 0xC000000000000000, 0) ∧
    after (step (before 0x1000 [(6, 0x7FFFFFFFFFFFFFFF), (7, 0x0)] [] 0x43F35293)) 5 0x8000 = some (0x1004, 0x0, 0) := by decide +kernel

theorem test_step_add :
    after (step (before 0x1000 [(6, 0x5), (7, 0x7)] [] 0x007302B3)) 5 0x8000 = some (0x1004, 0xC, 0) ∧
    after (step (before 0x1000 [(6, 0x5), (7, 0x7)] [] 0x00730333)) 6 0x8000 = some (0x1004, 0xC, 0) := by decide +kernel

theorem test_step_sub :
    after (step (before 0x1000 [(6, 0x5), (7, 0x7)] [] 0x407302B3)) 5 0x8000 = some (0x1004, 0xFFFFFFFFFFFFFFFE, 0) ∧
    after (step (before 0x1000 [(6, 0x0), (7, 0x1)] [] 0x407302B3)) 5 0x8000 = some (0x1004, 0xFFFFFFFFFFFFFFFF, 0) := by decide +kernel

theorem test_step_sll :
    after (step (before 0x1000 [(6, 0x1), (7, 0x40)] [] 0x007312B3)) 5 0x8000 = some (0x1004, 0x1, 0) ∧
    after (step (before 0x1000 [(6, 0x123), (7, 0xFFFFFFFFFFFFFFC4)] [] 0x007312B3)) 5 0x8000 = some (0x1004, 0x1230, 0) := by decide +kernel

theorem test_step_slt :
    after (step (before 0x1000 [(6, 0x0), (7, 0xFFFFFFFFFFFFFFFF)] [] 0x007322B3)) 5 0x8000 = some (0x1004, 0x0, 0) ∧
    after (step (before 0x1000 [(6, 0x5), (7, 0x5)] [] 0x007322B3)) 5 0x8000 = some (0x1004, 0x0, 0) := by decide +kernel

theorem test_step_sltu :
    after (step (before 0x1000 [(6, 0x0), (7, 0xFFFFFFFFFFFFFFFF)] [] 0x007332B3)) 5 0x8000 = some (0x1004, 0x1, 0) ∧
    after (step (before 0x1000 [(6, 0x0), (7, 0x0)] [] 0x007332B3)) 5 0x8000 = some (0x1004, 0x0, 0) := by decide +kernel

theorem test_step_xor :
    after (step (before 0x1000 [(6, 0xFF00FF00FF00FF00), (7, 0xFF00FF00FF00FF0)] [] 0x007342B3)) 5 0x8000 = some (0x1004, 0xF0F0F0F0F0F0F0F0, 0) ∧
    after (step (before 0x1000 [(6, 0xFFFFFFFFFFFFFFFF), (7, 0x1234)] [] 0x007342B3)) 5 0x8000 = some (0x1004, 0xFFFFFFFFFFFFEDCB, 0) := by decide +kernel

theorem test_step_srl :
    after (step (before 0x1000 [(6, 0xFFFFFFFFFFFFFFFF), (7, 0x4)] [] 0x007352B3)) 5 0x8000 = some (0x1004, 0xFFFFFFFFFFFFFFF, 0) ∧
    after (step (before 0x1000 [(6, 0xFFFFFFFFFFFFFFFF), (7, 0x44)] [] 0x007352B3)) 5 0x8000 = some (0x1004, 0xFFFFFFFFFFFFFFF, 0) := by decide +kernel

theorem test_step_sra :
    after (step (before 0x1000 [(6, 0xFFFFFFFFFFFFFFFF), (7, 0x4)] [] 0x407352B3)) 5 0x8000 = some (0x1004, 0xFFFFFFFFFFFFFFFF, 0) ∧
    after (step (before 0x1000 [(6, 0x8000000000000000), (7, 0x40)] [] 0x407352B3)) 5 0x8000 = some (0x1004, 0x8000000000000000, 0) := by decide +kernel

theorem test_step_or :
    after (step (before 0x1000 [(6, 0xF0), (7, 0xF)] [] 0x007362B3)) 5 0x8000 = some (0x1004, 0xFF, 0) := by decide +kernel

theorem test_step_and :
    after (step (before 0x1000 [(6, 0xFF00FF00FF00FF00), (7, 0xFF00FF00FF00FF0)] [] 0x007372B3)) 5 0x8000 = some (0x1004, 0xF000F000F000F00, 0) := by decide +kernel

theorem test_step_addiw :
    after (step (before 0x1000 [(6, 0x7FFFFFFF), (7, 0x0)] [] 0x0013029B)) 5 0x8000 = some (0x1004, 0xFFFFFFFF80000000, 0) ∧
    after (step (before 0x1000 [(6, 0x180000000), (7, 0x0)] [] 0x0003029B)) 5 0x8000 = some (0x1004, 0xFFFFFFFF80000000, 0) := by decide +kernel

theorem test_step_slliw :
    after (step (before 0x1000 [(6, 0x1), (7, 0x0)] [] 0x01F3129B)) 5 0x8000 = some (0x1004, 0xFFFFFFFF80000000, 0) ∧
    after (step (before 0x1000 [(6, 0x12345678), (7, 0x0)] [] 0x0043129B)) 5 0x8000 = some (0x1004, 0x23456780, 0) := by decide +kernel

theorem test_step_srliw :
    after (step (before 0x1000 [(6, 0xFFFFFFFF), (7, 0x0)] [] 0x0003529B)) 5 0x8000 = some (0x1004, 0xFFFFFFFFFFFFFFFF, 0) ∧
    after (step (before 0x1000 [(6, 0xFFFFFFFF), (7, 0x0)] [] 0x0043529B)) 5 0x8000 = some (0x1004, 0xFFFFFFF, 0) := by decide +kernel

theorem test_step_sraiw :
    after (step (before 0x1000 [(6, 0x80000000), (7, 0x0)] [] 0x4043529B)) 5 0x8000 = some (0x1004, 0xFFFFFFFFF8000000, 0) ∧
    after (step (before 0x1000 [(6, 0x7FFFFFFF), (7, 0x0)] [] 0x41F3529B)) 5 0x8000 = some (0x1004, 0x0, 0) := by decide +kernel

theorem test_step_addw :
    after (step (before 0x1000 [(6, 0x7FFFFFFF), (7, 0x1)] [] 0x007302BB)) 5 0x8000 = some (0x1004, 0xFFFFFFFF80000000, 0) ∧
    after (step (before 0x1000 [(6, 0x123456789ABCDEF0), (7, 0x0)] [] 0x007302BB)) 5 0x8000 = some (0x1004, 0xFFFFFFFF9ABCDEF0, 0) := by decide +kernel

theorem test_step_subw :
    after (step (before 0x1000 [(6, 0x0), (7, 0x1)] [] 0x407302BB)) 5 0x8000 = some (0x1004, 0xFFFFFFFFFFFFFFFF, 0) ∧
    after (step (before 0x1000 [(6, 0x80000000), (7, 0x1)] [] 0x407302BB)) 5 0x8000 = some (0x1004, 0x7FFFFFFF, 0) := by decide +kernel

theorem test_step_sllw :
    after (step (before 0x1000 [(6, 0x1), (7, 0x20)] [] 0x007312BB)) 5 0x8000 = some (0x1004, 0x1, 0) ∧
    after (step (before 0x1000 [(6, 0xFFFFFFFF), (7, 0x4)] [] 0x007312BB)) 5 0x8000 = some (0x1004, 0xFFFFFFFFFFFFFFF0, 0) := by decide +kernel

theorem test_step_srlw :
    after (step (before 0x1000 [(6, 0xFFFFFFFFFFFFFFFF), (7, 0x0)] [] 0x007352BB)) 5 0x8000 = some (0x1004, 0xFFFFFFFFFFFFFFFF, 0) ∧
    after (step (before 0x1000 [(6, 0xFFFFFFFF00000010), (7, 0x24)] [] 0x007352BB)) 5 0x8000 = some (0x1004, 0x1, 0) := by decide +kernel

theorem test_step_sraw :
    after (step (before 0x1000 [(6, 0x80000000), (7, 0x0)] [] 0x407352BB)) 5 0x8000 = some (0x1004, 0xFFFFFFFF80000000, 0) ∧
    after (step (before 0x1000 [(6, 0x7FFFFFFF), (7, 0x1E)] [] 0x407352BB)) 5 0x8000 = some (0x1004, 0x1, 0) := by decide +kernel

theorem test_step_pause :
    after (step (before 0x1000 [(5, 0x11), (6, 0x22)] [] 0x0100000F)) 5 0x8000 = some (0x1004, 0x11, 0) := by decide +kernel

theorem test_step_fence :
    after (step (before 0x1000 [(5, 0x11), (6, 0x22)] [] 0x0FF0000F)) 5 0x8000 = some (0x1004, 0x11, 0) ∧
    after (step (before 0x1000 [(5, 0x11), (6, 0x22)] [] 0xF0F3028F)) 5 0x8000 = some (0x1004, 0x11, 0) := by decide +kernel

theorem test_step_fenceI :
    after (step (before 0x1000 [(5, 0x11), (6, 0x22)] [] 0x0000100F)) 5 0x8000 = some (0x1004, 0x11, 0) ∧
    after (step (before 0x1000 [(5, 0x11), (6, 0x22)] [] 0x1233128F)) 5 0x8000 = some (0x1004, 0x11, 0) := by decide +kernel

theorem test_step_ecall :
    after (step (before 0x1000 [(5, 0x11), (6, 0x22)] [] 0x00000073)) 5 0x8000 = some (0x1004, 0x11, 0) := by decide +kernel

theorem test_step_ebreak :
    after (step (before 0x1000 [(5, 0x11), (6, 0x22)] [] 0x00100073)) 5 0x8000 = some (0x1004, 0x11, 0) := by decide +kernel

theorem test_step_mul :
    after (step (before 0x1000 [(6, 0x3), (7, 0x7)] [] 0x027302B3)) 5 0x8000 = some (0x1004, 0x15, 0) ∧
    after (step (before 0x1000 [(6, 0xFFFFFFFFFFFFFFFF), (7, 0xFFFFFFFFFFFFFFFF)] [] 0x027302B3)) 5 0x8000 = some (0x1004, 0x1, 0) := by decide +kernel

theorem test_step_mulh :
    after (step (before 0x1000 [(6, 0xFFFFFFFFFFFFFFFF), (7, 0xFFFFFFFFFFFFFFFF)] [] 0x027312B3)) 5 0x8000 = some (0x1004, 0x0, 0) ∧
    after (step (before 0x1000 [(6, 0x8000000000000000), (7, 0x7FFFFFFFFFFFFFFF)] [] 0x027312B3)) 5 0x8000 = some (0x1004, 0xC000000000000000, 0) := by decide +kernel

theorem test_step_mulhsu :
    after (step (before 0x1000 [(6, 0xFFFFFFFFFFFFFFFF), (7, 0xFFFFFFFFFFFFFFFF)] [] 0x027322B3)) 5 0x8000 = some (0x1004, 0xFFFFFFFFFFFFFFFF, 0) ∧
    after (step (before 0x1000 [(6, 0x1), (7, 0xFFFFFFFFFFFFFFFF)] [] 0x027322B3)) 5 0x8000 = some (0x1004, 0x0, 0) := by decide +kernel

theorem test_step_mulhu :
    after (step (before 0x1000 [(6, 0xFFFFFFFFFFFFFFFF), (7, 0xFFFFFFFFFFFFFFFF)] [] 0x027332B3)) 5 0x8000 = some (0x1004, 0xFFFFFFFFFFFFFFFE, 0) ∧
    after (step (before 0x1000 [(6, 0x8000000000000000), (7, 0x2)] [] 0x027332B3)) 5 0x8000 = some (0x1004, 0x1, 0) := by decide +kernel

theorem test_step_div :
    after (step (before 0x1000 [(6, 0xFFFFFFFFFFFFFFEC), (7, 0x6)] [] 0x027342B3)) 5 0x8000 = some (0x1004, 0xFFFFFFFFFFFFFFFD, 0) ∧
    after (step (before 0x1000 [(6, 0x8000000000000000), (7, 0xFFFFFFFFFFFFFFFF)] [] 0x027342B3)) 5 0x8000 = some (0x1004, 0x8000000000000000, 0) := by decide +kernel

theorem test_step_divu :
    after (step (before 0x1000 [(6, 0x14), (7, 0x6)] [] 0x027352B3)) 5 0x8000 = some (0x1004, 0x3, 0) ∧
    after (step (before 0x1000 [(6, 0xFFFFFFFFFFFFFFFF), (7, 0x2)] [] 0x027352B3)) 5 0x8000 = some (0x1004, 0x7FFFFFFFFFFFFFFF, 0) := by decide +kernel

theorem test_step_rem :
    after (step (before 0x1000 [(6, 0xFFFFFFFFFFFFFFEC), (7, 0x6)] [] 0x027362B3)) 5 0x8000 = some (0x1004, 0xFFFFFFFFFFFFFFFE, 0) ∧
    after (step (before 0x1000 [(6, 0x8000000000000000), (7, 0xFFFFFFFFFFFFFFFF)] [] 0x027362B3)) 5 0x8000 = some (0x1004, 0x0, 0) := by decide +kernel

theorem test_step_remu :
    after (step (before 0x1000 [(6, 0x14), (7, 0x6)] [] 0x027372B3)) 5 0x8000 = some (0x1004, 0x2, 0) ∧
    after (step (before 0x1000 [(6, 0x5), (7, 0x0)] [] 0x027372B3)) 5 0x8000 = some (0x1004, 0x5, 0) := by decide +kernel

theorem test_step_mulw :
    after (step (before 0x1000 [(6, 0x7FFFFFFF), (7, 0x2)] [] 0x027302BB)) 5 0x8000 = some (0x1004, 0xFFFFFFFFFFFFFFFE, 0) ∧
    after (step (before 0x1000 [(6, 0x100000003), (7, 0x100000005)] [] 0x027302BB)) 5 0x8000 = some (0x1004, 0xF, 0) := by decide +kernel

theorem test_step_divw :
    after (step (before 0x1000 [(6, 0x7), (7, 0x0)] [] 0x027342BB)) 5 0x8000 = some (0x1004, 0xFFFFFFFFFFFFFFFF, 0) ∧
    after (step (before 0x1000 [(6, 0xFFFFFFFFFFFFFFF9), (7, 0x2)] [] 0x027342BB)) 5 0x8000 = some (0x1004, 0xFFFFFFFFFFFFFFFD, 0) := by decide +kernel

theorem test_step_divuw :
    after (step (before 0x1000 [(6, 0xFFFFFFFF), (7, 0x1)] [] 0x027352BB)) 5 0x8000 = some (0x1004, 0xFFFFFFFFFFFFFFFF, 0) ∧
    after (step (before 0x1000 [(6, 0x7), (7, 0x0)] [] 0x027352BB)) 5 0x8000 = some (0x1004, 0xFFFFFFFFFFFFFFFF, 0) := by decide +kernel

theorem test_step_remw :
    after (step (before 0x1000 [(6, 0xFFFFFFFFFFFFFFF9), (7, 0x2)] [] 0x027362BB)) 5 0x8000 = some (0x1004, 0xFFFFFFFFFFFFFFFF, 0) ∧
    after (step (before 0x1000 [(6, 0x7), (7, 0x100000000)] [] 0x027362BB)) 5 0x8000 = some (0x1004, 0x7, 0) := by decide +kernel

theorem test_step_remuw :
    after (step (before 0x1000 [(6, 0xFFFFFFFF), (7, 0x10)] [] 0x027372BB)) 5 0x8000 = some (0x1004, 0xF, 0) ∧
    after (step (before 0x1000 [(6, 0x80000007), (7, 0x0)] [] 0x027372BB)) 5 0x8000 = some (0x1004, 0xFFFFFFFF80000007, 0) := by decide +kernel

theorem test_step_lrW :
    after (step (before 0x1000 [(6, 0x2000), (7, 0xFFFFFFFF00000005)] cell 0x100322AF)) 5 0x2000 = some (0x1004, 0xFFFFFFFF80000001, 0xFFFFFFFF80000001) := by decide +kernel

theorem test_step_scW :
    after (step (before 0x1000 [(6, 0x2000), (7, 0xFFFFFFFF00000005)] cell 0x187322AF)) 5 0x2000 = some (0x1004, 0x0, 0xFFFFFFFF00000005) := by decide +kernel

theorem test_step_amoswapW :
    after (step (before 0x1000 [(6, 0x2000), (7, 0xFFFFFFFF00000005)] cell 0x087322AF)) 5 0x2000 = some (0x1004, 0xFFFFFFFF80000001, 0xFFFFFFFF00000005) := by decide +kernel

theorem test_step_amoaddW :
    after (step (before 0x1000 [(6, 0x2000), (7, 0xFFFFFFFF00000005)] cell 0x007322AF)) 5 0x2000 = some (0x1004, 0xFFFFFFFF80000001, 0xFFFFFFFF80000006) := by decide +kernel

theorem test_step_amoxorW :
    after (step (before 0x1000 [(6, 0x2000), (7, 0xFFFFFFFF00000005)] cell 0x207322AF)) 5 0x2000 = some (0x1004, 0xFFFFFFFF80000001, 0xFFFFFFFF80000004) := by decide +kernel

theorem test_step_amoandW :
    after (step (before 0x1000 [(6, 0x2000), (7, 0xFFFFFFFF00000005)] cell 0x607322AF)) 5 0x2000 = some (0x1004, 0xFFFFFFFF80000001, 0xFFFFFFFF00000001) := by decide +kernel

theorem test_step_amoorW :
    after (step (before 0x1000 [(6, 0x2000), (7, 0xFFFFFFFF00000005)] cell 0x407322AF)) 5 0x2000 = some (0x1004, 0xFFFFFFFF80000001, 0xFFFFFFFF80000005) := by decide +kernel

theorem test_step_amominW :
    after (step (before 0x1000 [(6, 0x2000), (7, 0xFFFFFFFF00000005)] cell 0x807322AF)) 5 0x2000 = some (0x1004, 0xFFFFFFFF80000001, 0xFFFFFFFF80000001) := by decide +kernel

theorem test_step_amomaxW :
    after (step (before 0x1000 [(6, 0x2000), (7, 0xFFFFFFFF00000005)] cell 0xA07322AF)) 5 0x2000 = some (0x1004, 0xFFFFFFFF80000001, 0xFFFFFFFF00000005) := by decide +kernel

theorem test_step_amominuW :
    after (step (before 0x1000 [(6, 0x2000), (7, 0xFFFFFFFF00000005)] cell 0xC07322AF)) 5 0x2000 = some (0x1004, 0xFFFFFFFF80000001, 0xFFFFFFFF00000005) := by decide +kernel

theorem test_step_amomaxuW :
    after (step (before 0x1000 [(6, 0x2000), (7, 0xFFFFFFFF00000005)] cell 0xE07322AF)) 5 0x2000 = some (0x1004, 0xFFFFFFFF80000001, 0xFFFFFFFF80000001) := by decide +kernel

theorem test_step_lrD :
    after (step (before 0x1000 [(6, 0x2000), (7, 0xFFFFFFFF00000005)] cell 0x100332AF)) 5 0x2000 = some (0x1004, 0xFFFFFFFF80000001, 0xFFFFFFFF80000001) := by decide +kernel

theorem test_step_scD :
    after (step (before 0x1000 [(6, 0x2000), (7, 0xFFFFFFFF00000005)] cell 0x187332AF)) 5 0x2000 = some (0x1004, 0x0, 0xFFFFFFFF00000005) := by decide +kernel

theorem test_step_amoswapD :
    after (step (before 0x1000 [(6, 0x2000), (7, 0xFFFFFFFF00000005)] cell 0x087332AF)) 5 0x2000 = some (0x1004, 0xFFFFFFFF80000001, 0xFFFFFFFF00000005) := by decide +kernel

theorem test_step_amoaddD :
    after (step (before 0x1000 [(6, 0x2000), (7, 0xFFFFFFFF00000005)] cell 0x007332AF)) 5 0x2000 = some (0x1004, 0xFFFFFFFF80000001, 0xFFFFFFFE80000006) := by decide +kernel

theorem test_step_amoxorD :
    after (step (before 0x1000 [(6, 0x2000), (7, 0xFFFFFFFF00000005)] cell 0x207332AF)) 5 0x2000 = some (0x1004, 0xFFFFFFFF80000001, 0x80000004) := by decide +kernel

theorem test_step_amoandD :
    after (step (before 0x1000 [(6, 0x2000), (7, 0xFFFFFFFF00000005)] cell 0x607332AF)) 5 0x2000 = some (0x1004, 0xFFFFFFFF80000001, 0xFFFFFFFF00000001) := by decide +kernel

theorem test_step_amoorD :
    after (step (before 0x1000 [(6, 0x2000), (7, 0xFFFFFFFF00000005)] cell 0x407332AF)) 5 0x2000 = some (0x1004, 0xFFFFFFFF80000001, 0xFFFFFFFF80000005) := by decide +kernel

theorem test_step_amominD :
    after (step (before 0x1000 [(6, 0x2000), (7, 0xFFFFFFFF00000005)] cell 0x807332AF)) 5 0x2000 = some (0x1004, 0xFFFFFFFF80000001, 0xFFFFFFFF00000005) := by decide +kernel

theorem test_step_amomaxD :
    after (step (before 0x1000 [(6, 0x2000), (7, 0xFFFFFFFF00000005)] cell 0xA07332AF)) 5 0x2000 = some (0x1004, 0xFFFFFFFF80000001, 0xFFFFFFFF80000001) := by decide +kernel

theorem test_step_amominuD :
    after (step (before 0x1000 [(6, 0x2000), (7, 0xFFFFFFFF00000005)] cell 0xC07332AF)) 5 0x2000 = some (0x1004, 0xFFFFFFFF80000001, 0xFFFFFFFF00000005) := by decide +kernel

theorem test_step_amomaxuD :
    after (step (before 0x1000 [(6, 0x2000), (7, 0xFFFFFFFF00000005)] cell 0xE07332AF)) 5 0x2000 = some (0x1004, 0xFFFFFFFF80000001, 0xFFFFFFFF80000001) := by decide +kernel

/-- The end of the RAM and the ends of the address space (spec 95_test_vectors.md section 5). -/
theorem test_step_edges :
    after (step (before 0x1000 [(6, 0xFFFC)] [] 0x00032283)) 5 0x2000 = some (0x1004, 0x0, 0) ∧
    faultOf (step (before 0x1000 [(6, 0xFFFC)] [] 0x00033283)) = some (.execute (.device (.invalidReadAddress 0xFFFC))) ∧
    faultOf (step (before 0x1000 [(6, 0xFFFC)] [] 0x00432283)) = some (.execute (.device (.invalidReadAddress 0x10000))) ∧
    faultOf (step (before 0x1000 [(6, 0xFFFC)] [] 0x00732123)) = some (.execute (.device (.invalidWriteAddress 0xFFFE))) ∧
    after (step (before 0x1000 [(6, 0xFFFC), (7, 0xAABBCCDD)] [] 0x007301A3)) 6 0xFFF8 = some (0x1004, 0xFFFC, 0xDD00000000000000) ∧
    faultOf (step (before 0x1000 [(6, 0xFFFC)] [] 0xFFF00283)) = some (.execute (.device (.invalidReadAddress 0xFFFFFFFFFFFFFFFF))) ∧
    faultOf (step (before 0x1000 [(6, 0xFFFC)] [] 0xFE703C23)) = some (.execute (.device (.invalidWriteAddress 0xFFFFFFFFFFFFFFF8))) := by decide +kernel

/-- A misaligned AMO with `aq` and `rl` clear, and the same word with both set (spec 46_atomic.md, its two further cases). -/
theorem test_step_amo_misaligned :
    after (step (before 0x1000 [(6, 0x2001), (7, 1)] cell 0x007322AF)) 5 0x2000 = some (0x1004, 0xFFFFFFFFFF800000, 0xFFFFFFFF80000101) ∧
    after (step (before 0x1000 [(6, 0x2000), (7, 0xFFFFFFFF00000005)] cell 0x067322AF)) 5 0x2000 =
      some (0x1004, 0xFFFFFFFF80000001, 0xFFFFFFFF80000006) := by decide +kernel

/-- Every F and D row's Example ends in `Unimplemented` of it (R11, spec 95_test_vectors.md section 8.2). -/
theorem test_float_unimplemented_1 : ∀ i ∈ ([
    .flw ⟨1#5⟩ ⟨2#5⟩ 0x8#64, .fsw ⟨2#5⟩ ⟨3#5⟩ 0x8#64, .fmaddS ⟨1#5⟩ ⟨2#5⟩ ⟨3#5⟩ ⟨4#5⟩ .rne, .fmsubS ⟨1#5⟩ ⟨2#5⟩ ⟨3#5⟩ ⟨4#5⟩ .rne,
    .fnmsubS ⟨1#5⟩ ⟨2#5⟩ ⟨3#5⟩ ⟨4#5⟩ .rne, .fnmaddS ⟨1#5⟩ ⟨2#5⟩ ⟨3#5⟩ ⟨4#5⟩ .rne, .faddS ⟨1#5⟩ ⟨2#5⟩ ⟨3#5⟩ .rne, .fsubS ⟨1#5⟩ ⟨2#5⟩ ⟨3#5⟩ .rne,
    .fmulS ⟨1#5⟩ ⟨2#5⟩ ⟨3#5⟩ .rne, .fdivS ⟨1#5⟩ ⟨2#5⟩ ⟨3#5⟩ .rne, .fsqrtS ⟨1#5⟩ ⟨2#5⟩ .rne, .fsgnjS ⟨1#5⟩ ⟨2#5⟩ ⟨3#5⟩,
    .fsgnjnS ⟨1#5⟩ ⟨2#5⟩ ⟨3#5⟩, .fsgnjxS ⟨1#5⟩ ⟨2#5⟩ ⟨3#5⟩, .fminS ⟨1#5⟩ ⟨2#5⟩ ⟨3#5⟩, .fmaxS ⟨1#5⟩ ⟨2#5⟩ ⟨3#5⟩,
    .fcvtSD ⟨1#5⟩ ⟨2#5⟩ .rne, .feqS ⟨1#5⟩ ⟨2#5⟩ ⟨3#5⟩, .fltS ⟨1#5⟩ ⟨2#5⟩ ⟨3#5⟩, .fleS ⟨1#5⟩ ⟨2#5⟩ ⟨3#5⟩,
    .fclassS ⟨1#5⟩ ⟨2#5⟩, .fcvtWS ⟨1#5⟩ ⟨2#5⟩ .rne, .fcvtWuS ⟨1#5⟩ ⟨2#5⟩ .rne, .fcvtLS ⟨1#5⟩ ⟨2#5⟩ .rne,
    .fcvtLuS ⟨1#5⟩ ⟨2#5⟩ .rne, .fcvtSW ⟨1#5⟩ ⟨2#5⟩ .rne, .fcvtSWu ⟨1#5⟩ ⟨2#5⟩ .rne, .fcvtSL ⟨1#5⟩ ⟨2#5⟩ .rne,
    .fcvtSLu ⟨1#5⟩ ⟨2#5⟩ .rne, .fmvXW ⟨1#5⟩ ⟨2#5⟩, .fmvWX ⟨1#5⟩ ⟨2#5⟩] : List Instr),
    faultOf (exec i State.reset) = some (.execute (.unimplemented (.instr i))) := by decide +kernel

theorem test_float_unimplemented_2 : ∀ i ∈ ([
    .fld ⟨1#5⟩ ⟨2#5⟩ 0x8#64, .fsd ⟨2#5⟩ ⟨3#5⟩ 0x8#64, .fmaddD ⟨1#5⟩ ⟨2#5⟩ ⟨3#5⟩ ⟨4#5⟩ .rne, .fmsubD ⟨1#5⟩ ⟨2#5⟩ ⟨3#5⟩ ⟨4#5⟩ .rne,
    .fnmsubD ⟨1#5⟩ ⟨2#5⟩ ⟨3#5⟩ ⟨4#5⟩ .rne, .fnmaddD ⟨1#5⟩ ⟨2#5⟩ ⟨3#5⟩ ⟨4#5⟩ .rne, .faddD ⟨1#5⟩ ⟨2#5⟩ ⟨3#5⟩ .rne, .fsubD ⟨1#5⟩ ⟨2#5⟩ ⟨3#5⟩ .rne,
    .fmulD ⟨1#5⟩ ⟨2#5⟩ ⟨3#5⟩ .rne, .fdivD ⟨1#5⟩ ⟨2#5⟩ ⟨3#5⟩ .rne, .fsqrtD ⟨1#5⟩ ⟨2#5⟩ .rne, .fsgnjD ⟨1#5⟩ ⟨2#5⟩ ⟨3#5⟩,
    .fsgnjnD ⟨1#5⟩ ⟨2#5⟩ ⟨3#5⟩, .fsgnjxD ⟨1#5⟩ ⟨2#5⟩ ⟨3#5⟩, .fminD ⟨1#5⟩ ⟨2#5⟩ ⟨3#5⟩, .fmaxD ⟨1#5⟩ ⟨2#5⟩ ⟨3#5⟩,
    .fcvtDS ⟨1#5⟩ ⟨2#5⟩ .rne, .feqD ⟨1#5⟩ ⟨2#5⟩ ⟨3#5⟩, .fltD ⟨1#5⟩ ⟨2#5⟩ ⟨3#5⟩, .fleD ⟨1#5⟩ ⟨2#5⟩ ⟨3#5⟩,
    .fclassD ⟨1#5⟩ ⟨2#5⟩, .fcvtWD ⟨1#5⟩ ⟨2#5⟩ .rne, .fcvtWuD ⟨1#5⟩ ⟨2#5⟩ .rne, .fcvtLD ⟨1#5⟩ ⟨2#5⟩ .rne,
    .fcvtLuD ⟨1#5⟩ ⟨2#5⟩ .rne, .fcvtDW ⟨1#5⟩ ⟨2#5⟩ .rne, .fcvtDWu ⟨1#5⟩ ⟨2#5⟩ .rne, .fcvtDL ⟨1#5⟩ ⟨2#5⟩ .rne,
    .fcvtDLu ⟨1#5⟩ ⟨2#5⟩ .rne, .fmvXD ⟨1#5⟩ ⟨2#5⟩, .fmvDX ⟨1#5⟩ ⟨2#5⟩] : List Instr),
    faultOf (exec i State.reset) = some (.execute (.unimplemented (.instr i))) := by decide +kernel
/-! ## Errors of a step (spec 95_test_vectors.md section 9) -/

theorem test_fetch_faults :
    faultOf (step { State.reset with pc := 0x10000#64 }) = some (.device (.invalidReadAddress 0x10000)) ∧
    faultOf (step { State.reset with pc := 0xFFFE#64 }) = some (.device (.invalidReadAddress 0xFFFE)) ∧
    faultOf (step { State.reset with pc := 0xFFFFFFFFFFFFFFFC#64 }) = some (.device (.invalidReadAddress 0xFFFFFFFFFFFFFFFC)) := by
  decide +kernel

theorem test_decode_step_faults :
    faultOf (step State.reset) = some (.decode (.noFormat 0#7)) ∧
    faultOf (step (before 0 [] [] 0x30200073)) = some (.decode (.noVariant 0b1110011#7 (.i 0#3 0#5 0#5 0x302#64))) ∧
    faultOf (step (before 0 [] [] 0x40001033)) =
      some (.decode (.noVariant 0b0110011#7 (.r 0b001#3 0#5 0#5 0#5 0b0100000#7))) := by
  decide +kernel

theorem test_unimplemented_extensions :
    faultOf (step (before 0 [] [] 0x003100D3)) = some (.execute (.unimplemented (.instr (.faddS ⟨1#5⟩ ⟨2#5⟩ ⟨3#5⟩ .rne)))) ∧
    faultOf (step { before 0 [] [] 0x027302B3 with execM := .unimplemented }) =
      some (.execute (.unimplemented (.instr (.mul ⟨5#5⟩ ⟨6#5⟩ ⟨7#5⟩)))) ∧
    faultOf (step { before 0 [(6, 0x20000)] [] 0x007322AF with execA := .unimplemented }) =
      some (.execute (.unimplemented (.instr (.amoaddW ⟨5#5⟩ ⟨6#5⟩ ⟨7#5⟩ false false)))) := by
  decide +kernel

theorem test_data_access_faults :
    faultOf (step (before 0 [(7, 0x10000)] [] 0x0003A283)) = some (.execute (.device (.invalidReadAddress 0x10000))) ∧
    faultOf (step (before 0 [(6, 0xFFFE), (7, 0x11223344)] [] 0x00732023)) =
      some (.execute (.device (.invalidWriteAddress 0xFFFE))) ∧
    faultOf (step (before 0 [(5, 7), (6, 0x10000)] [] 0x187332AF)) =
      some (.execute (.device (.invalidWriteAddress 0x10000))) := by
  decide +kernel

/-! ## The bus (spec 95_test_vectors.md section 10) -/

/-- The nested map of section 10. -/
def nestedBus : Bus := .nested 0x1000 (.ram 0x10 0x10 .empty) .empty

theorem test_nested_bus :
    busSize nestedBus = 0x1020 ∧ resolve nestedBus 0x1015 = .found (.ram 0x10) 0x5 ∧
    resolve nestedBus 0x101C = .found (.ram 0x10) 0xC ∧ resolve nestedBus 0x1005 = .miss 0x5 ∧
    resolve nestedBus 0x1020 = .miss 0x1020 ∧ resolve nestedBus 0x0FFF = .miss 0xFFF ∧
    busReadBytes { State.reset with bus := nestedBus } 0x101E 4 = .error (.invalidReadAddress 0xE) := by
  decide +kernel

/-- The map with a gap of section 10. -/
def gapBus : Bus := .ram 0 0x80 (.ram 0x100 0x80 .empty)

theorem test_gap_bus :
    busSize gapBus = 0x180 ∧ resolve gapBus 0x80 = .miss 0x80 ∧ resolve gapBus 0xFF = .miss 0xFF ∧
    busReadBytes { State.reset with bus := gapBus } 0x7F 2 = .error (.invalidReadAddress 0x7F) ∧ busSize .empty = 0 := by
  decide +kernel

/-- The device of section 10 that holds the bytes 01 02 03 84. -/
def fourBytes : State := { State.reset with bus := .ram 0 4 .empty, mem := [(0, 1#8), (1, 2#8), (2, 3#8), (3, 0x84#8)] }

/-- The value of an integer read that does not fault. -/
def valueOf (r : Except DeviceFault (Word × State)) : Option Word :=
  match r with
  | .ok (v, _) => some v
  | .error _ => none

theorem test_integer_access :
    valueOf (busReadInt fourBytes 0 4 .little false) = some 0x84030201#64 ∧
    valueOf (busReadInt fourBytes 0 4 .little true) = some 0xFFFFFFFF84030201#64 ∧
    valueOf (busReadInt fourBytes 0 4 .big false) = some 0x01020384#64 ∧
    valueOf (busReadInt fourBytes 2 2 .big true) = some 0x384#64 ∧
    valueOf (busReadInt fourBytes 3 1 .little true) = some 0xFFFFFFFFFFFFFF84#64 ∧
    busReadInt fourBytes 0 3 .little false = .error (.invalidReadSize 3) ∧
    (match busWriteInt fourBytes 0 0xAABB#64 2 .big with
      | .ok t => t.mem.readBytes 0 2
      | .error _ => []) = [0xAA#8, 0xBB#8] := by
  decide +kernel

/-- A refused access keeps its direction, by either code (R43, R275). -/
theorem test_reported_direction :
    reportedReadFault ⟨false, 7⟩ = .invalidReadAddress 7 ∧ reportedReadFault ⟨true, 8⟩ = .invalidReadSize 8 ∧
    reportedWriteFault ⟨false, 7⟩ = .invalidWriteAddress 7 ∧ reportedWriteFault ⟨true, 8⟩ = .invalidWriteSize 8 := by
  decide

/-! ## Construction, and placing the next instruction -/

theorem test_construct_reference : construct Platform.reference = .ok State.reset := by decide +kernel

/-- The overlapping map of section 10. -/
theorem test_construct_overlap :
    construct { Platform.reference with busMap := .ram 0 0x80 (.ram 0x40 0x80 .empty) } = .error .overlappingBusMap := by
  decide +kernel

theorem test_withFetchWord_outside_ram :
    after (step ({ State.reset with pc := 0x20000#64 }.withFetchWord 32 0x12345037)) 0 0x8000 = some (0x20004, 0, 0) := by
  decide +kernel

/-- R109 and R110. -/
theorem test_assembler_text :
    asmText (.lui ⟨5#5⟩ 0x12345000#64) = "lui x5, 74565" ∧ asmText (.lb ⟨5#5⟩ ⟨6#5⟩ 3#64) = "lb x5, 3(x6)" ∧
    hi20 0x12345FFF#32 = 0x12346000#64 ∧ lo12 0x12345FFF#32 = (-1#64) := by
  decide +kernel

/-! ## Witnesses: a state and operands that meet the hypotheses of each statement

Each name says which statement it serves; a statement of several clauses has one part for each of them. -/

/-- O1, at the ends of each immediate's range and both reserved rounding codes. -/
theorem witness_DecodeEncodeRoundTrip :
    (Instr.lui ⟨31#5⟩ 0xFFFFFFFFFFFFF000#64).wf = true ∧ (Instr.jal ⟨1#5⟩ 0xFFFFE#64).wf = true ∧
    (Instr.jal ⟨1#5⟩ (-0x100000#64)).wf = true ∧ (Instr.beq ⟨1#5⟩ ⟨2#5⟩ 0xFFE#64).wf = true ∧
    (Instr.beq ⟨1#5⟩ ⟨2#5⟩ (-0x1000#64)).wf = true ∧ (Instr.addi ⟨1#5⟩ ⟨2#5⟩ 2047#64).wf = true ∧
    (Instr.sd ⟨1#5⟩ ⟨2#5⟩ (-2048#64)).wf = true ∧ (Instr.fence 0#4 0#4 0#4 ⟨0#5⟩ ⟨0#5⟩).wf = true ∧
    (Instr.faddS ⟨1#5⟩ ⟨2#5⟩ ⟨3#5⟩ (.invalid 0b101#3)).wf = true ∧ (Instr.faddD ⟨1#5⟩ ⟨2#5⟩ ⟨3#5⟩ (.invalid 0b110#3)).wf = true := by
  decide

/-- O2 and O5. -/
theorem witness_EncodeDecodeRoundTrip : decode 0xEB7D0767#32 = .ok (.jalr ⟨14#5⟩ ⟨26#5⟩ 0xFFFFFFFFFFFFFEB7#64) := by
  decide +kernel

/-- O3, second clause. -/
theorem witness_UnassignedOpcodesAreNoFormat : (0x00000002#32).extractLsb' 0 2 ≠ 0b11#2 := by decide

/-- O4, one word for each of its five cases. -/
theorem witness_NoVariantCarriesTheFields :
    decode 0x00000000#32 = .error (.noFormat 0#7) ∧
    decode 0x40001033#32 = .error (.noVariant 0x33#7 (.r 1#3 0#5 0#5 0#5 0b0100000#7)) ∧
    decode 0x00037283#32 = .error (.noVariant 0x03#7 (.i 7#3 5#5 6#5 0#64)) ∧
    decode 0x00734023#32 = .error (.noVariant 0x23#7 (.s 4#3 6#5 7#5 0#64)) ∧
    decode 0x00002063#32 = .error (.noVariant 0x63#7 (.b 2#3 0#5 0#5 0#64)) := by
  decide +kernel

/-- O4, last clause: a word of each opcode of the formats U and J. -/
theorem witness_noUorJFault :
    ((0xFFFFFF97#32).extractLsb' 0 7).toNat = 0x17 ∧ ((0xFFFFFFB7#32).extractLsb' 0 7).toNat = 0x37 ∧
    ((0xFFFFFFEF#32).extractLsb' 0 7).toNat = 0x6F := by
  decide

/-- O6, a word of ADD's row, and PAUSE's word, which is in FENCE's row too. -/
theorem witness_RowWordDecodesToItsRow :
    (∀ f ∈ (Instr.add ⟨0#5⟩ ⟨0#5⟩ ⟨0#5⟩).fixedFields, f.holdsOf 0x00730333#32) ∧
    (∀ f ∈ (Instr.fence 0#4 0#4 0#4 ⟨0#5⟩ ⟨0#5⟩).fixedFields, f.holdsOf 0x0100000F#32) := by
  decide +kernel

/-- O9, a SYSTEM word that is neither ECALL nor EBREAK (MRET's). -/
theorem witness_SystemWords :
    (0x30200073#32).extractLsb' 0 7 = 0b1110011#7 ∧ 0x30200073#32 ≠ 0x00000073#32 ∧ 0x30200073#32 ≠ 0x00100073#32 := by decide

/-- O10, a word for each funct3 case. -/
theorem witness_MiscMemWords :
    ((0x0200000F#32).extractLsb' 0 7 = 0b0001111#7 ∧ 0x0200000F#32 ≠ 0x0100000F#32 ∧ (0x0200000F#32).extractLsb' 12 3 = 0b000#3) ∧
    ((0x0100100F#32).extractLsb' 0 7 = 0b0001111#7 ∧ 0x0100100F#32 ≠ 0x0100000F#32 ∧ (0x0100100F#32).extractLsb' 12 3 = 0b001#3) ∧
    ((0x0100200F#32).extractLsb' 0 7 = 0b0001111#7 ∧ 0x0100200F#32 ≠ 0x0100000F#32 ∧
      (0x0100200F#32).extractLsb' 12 3 ≠ 0b000#3 ∧ (0x0100200F#32).extractLsb' 12 3 ≠ 0b001#3) := by
  decide

/-- O13, last clause: operands that differ above bit 31. -/
theorem witness_AluConsequences :
    (0x1FFFFFFFF#64).setWidth 32 = (0xFFFFFFFF#64).setWidth 32 ∧ (0x100000000#64).setWidth 32 = (0#64).setWidth 32 := by decide

/-- O15: x0, x31, and a register that differs from it. -/
theorem witness_ZeroRegisterAndPlainStorage :
    (⟨0#5⟩ : XReg).idx = 0#5 ∧ (⟨31#5⟩ : XReg).idx ≠ 0#5 ∧ (⟨0#5⟩ : XReg) ≠ ⟨31#5⟩ := by decide

/-- O19 and O23: a func6 and a func7 that select no shift. -/
theorem witness_ShiftImmediates : (0b000001#6) ≠ 0b000000#6 ∧ (0b0000001#7) ≠ 0b0000000#7 := by decide

/-- The reference platform with x6 holding an address. -/
def addressing (a : Nat) : State := State.reset.writeX ⟨6#5⟩ (BitVec.ofNat 64 a)

/-- O27 and O33 (loads), at the last position of each width, and a read that faults one byte later. -/
theorem witness_Loads :
    InRam (addressing 0xFFFF) ((addressing 0xFFFF).readX ⟨6#5⟩ + 0#64).toNat 1 ∧
    InRam (addressing 0xFFFF) ((addressing 0xFFFF).readX ⟨6#5⟩ + (-1#64)).toNat 2 ∧
    InRam (addressing 0xFFFF) ((addressing 0xFFFF).readX ⟨6#5⟩ + (-3#64)).toNat 4 ∧
    InRam (addressing 0xFFFF) ((addressing 0xFFFF).readX ⟨6#5⟩ + (-7#64)).toNat 8 ∧
    (∀ n ∈ [1, 2, 4, 8], memRead (addressing 0x1000) ((addressing 0x1000).readX ⟨6#5⟩) n = .ok (0#64, addressing 0x1000)) ∧
    (∀ n ∈ [1, 2, 4, 8], memRead (addressing 0x10000) ((addressing 0x10000).readX ⟨6#5⟩) n = .error (.invalidReadAddress 0x10000)) :=
  ⟨⟨0x10000, 0xFFFF, by decide +kernel, by decide⟩, ⟨0x10000, 0xFFFE, by decide +kernel, by decide⟩,
    ⟨0x10000, 0xFFFC, by decide +kernel, by decide⟩, ⟨0x10000, 0xFFF8, by decide +kernel, by decide⟩,
    by decide +kernel, by decide +kernel⟩

/-- A write of these bytes does not fault. -/
def writes (s : State) (addr : Word) (n : Nat) (v : Word) : Bool :=
  match memWrite s addr n v with
  | .ok _ => true
  | .error _ => false

theorem writes_ok {s : State} {addr : Word} {n : Nat} {v : Word} (h : writes s addr n v = true) :
    ∃ s', memWrite s addr n v = .ok s' := by
  unfold writes at h
  split at h
  · exact ⟨_, ‹_›⟩
  · cases h

/-- O28 and O33 (stores): the canonical form, the positions of `witness_Loads`, a write that succeeds and one that faults. -/
theorem witness_Stores :
    Memory.wf (addressing 0xFFF8).mem ∧ InRam (addressing 0xFFF8) ((addressing 0xFFF8).readX ⟨6#5⟩ + 0#64).toNat 8 ∧
    (∃ s', memWrite (addressing 0xFFF8) ((addressing 0xFFF8).readX ⟨6#5⟩) 8 0x1122334455667788#64 = .ok s') ∧
    (∃ s', memWrite (addressing 0xFFF8) ((addressing 0xFFF8).readX ⟨6#5⟩) 1 0#64 = .ok s') ∧
    (∀ n ∈ [1, 2, 4, 8], memWrite (addressing 0x10000) ((addressing 0x10000).readX ⟨6#5⟩) n 1#64 =
      .error (.invalidWriteAddress 0x10000)) ∧
    memWrite (addressing 0xFFF9) ((addressing 0xFFF9).readX ⟨6#5⟩) 8 1#64 = .error (.invalidWriteAddress 0xFFF9) :=
  ⟨by decide +kernel, ⟨0x10000, 0xFFF8, by decide +kernel, by decide⟩, writes_ok (by decide +kernel), writes_ok (by decide +kernel),
    by decide +kernel, by decide +kernel⟩

/-- O34 and O35: `EXEC_A` at each value, a RAM word, a read and then a write that succeed, and a read that faults. -/
theorem witness_Amo :
    (addressing 0xFFFC).execA = .plain ∧ { addressing 0xFFFC with execA := .unimplemented }.execA = .unimplemented ∧
    Memory.wf (addressing 0xFFFC).mem ∧ InRam (addressing 0xFFFC) ((addressing 0xFFFC).readX ⟨6#5⟩).toNat 4 ∧
    (memRead (addressing 0xFFFC) ((addressing 0xFFFC).readX ⟨6#5⟩) 4 = .ok (0#64, addressing 0xFFFC) ∧
      ∃ s', memWrite (addressing 0xFFFC) ((addressing 0xFFFC).readX ⟨6#5⟩) 4 5#64 = .ok s') ∧
    (memRead (addressing 0xFFF8) ((addressing 0xFFF8).readX ⟨6#5⟩) 8 = .ok (0#64, addressing 0xFFF8) ∧
      ∃ s', memWrite (addressing 0xFFF8) ((addressing 0xFFF8).readX ⟨6#5⟩) 8 5#64 = .ok s') ∧
    memRead (addressing 0xFFFD) ((addressing 0xFFFD).readX ⟨6#5⟩) 4 = .error (.invalidReadAddress 0xFFFD) :=
  ⟨by decide +kernel, by decide +kernel, by decide +kernel, ⟨0x10000, 0xFFFC, by decide +kernel, by decide⟩,
    ⟨by decide +kernel, writes_ok (by decide +kernel)⟩, ⟨by decide +kernel, writes_ok (by decide +kernel)⟩, by decide +kernel⟩

/-- O30 to O32: `EXEC_M` at each value. -/
theorem witness_Multiplies :
    State.reset.execM = .standard ∧ { State.reset with execM := .unimplemented }.execM = .unimplemented := by decide

/-- O33, last clause. -/
theorem witness_LoadReserved : (⟨31#5⟩ : XReg).idx ≠ 0b00000#5 := by decide

/-- O36, each side of `kind`, and both parameters at the values that execute. -/
theorem witness_FloatIsUnimplemented :
    (Instr.fmvDX ⟨1#5⟩ ⟨2#5⟩).kind = .float ∧ (Instr.mul ⟨1#5⟩ ⟨2#5⟩ ⟨3#5⟩).kind ≠ .float ∧
    State.reset.execM = .standard ∧ State.reset.execA = .plain := by decide

/-- A state whose next instruction is `addi x6, x6, 1`, the last word of the RAM. -/
def atLastWord : State := before 0xFFFC [] [] 0x00130313

/-- O37 and O38, first and second premises. -/
theorem witness_StepRunsDecoded :
    InRam atLastWord atLastWord.pc.toNat 4 ∧
    decode (atLastWord.wordAt atLastWord.pc.toNat) = .ok (.addi ⟨6#5⟩ ⟨6#5⟩ 1#64) ∧
    memRead atLastWord atLastWord.pc 4 = .ok (0x00130313#64, atLastWord) ∧
    decode ((0x00130313#64).extractLsb' 0 32) = .ok (.addi ⟨6#5⟩ ⟨6#5⟩ 1#64) :=
  ⟨⟨0x10000, 0xFFFC, by decide +kernel, by decide⟩, by decide +kernel, by decide +kernel, by decide +kernel⟩

/-- O38: a fetch that faults, a fetched word that does not decode, and the steps that report them. -/
theorem witness_StepReportsTheFirstError :
    memRead { State.reset with pc := 0xFFFD#64 } 0xFFFD#64 4 = .error (.invalidReadAddress 0xFFFD) ∧
    step { State.reset with pc := 0xFFFD#64 } = .fault (.device (.invalidReadAddress 0xFFFD)) ∧
    memRead State.reset State.reset.pc 4 = .ok (0#64, State.reset) ∧
    decode ((0#64).extractLsb' 0 32) = .error (.noFormat 0#7) ∧
    step State.reset = .fault (.decode (.noFormat 0#7)) :=
  ⟨by decide +kernel, faultOf_fault (by decide +kernel), by decide +kernel, by decide +kernel, faultOf_fault (by decide +kernel)⟩

/-- O38: an execute fault of a fetched and decoded instruction (FADD.S), and the step that reports it. -/
theorem witness_StepReportsExecuteFaults :
    memRead (before 0 [] [] 0x003100D3) 0#64 4 = .ok (0x003100D3#64, before 0 [] [] 0x003100D3) ∧
    decode ((0x003100D3#64).extractLsb' 0 32) = .ok (.faddS ⟨1#5⟩ ⟨2#5⟩ ⟨3#5⟩ .rne) ∧
    exec (.faddS ⟨1#5⟩ ⟨2#5⟩ ⟨3#5⟩ .rne) (before 0 [] [] 0x003100D3) =
      .fault (.execute (.unimplemented (.instr (.faddS ⟨1#5⟩ ⟨2#5⟩ ⟨3#5⟩ .rne)))) ∧
    step (before 0 [] [] 0x003100D3) = .fault (.execute (.unimplemented (.instr (.faddS ⟨1#5⟩ ⟨2#5⟩ ⟨3#5⟩ .rne)))) :=
  ⟨by decide +kernel, by decide +kernel, faultOf_fault (by decide +kernel), faultOf_fault (by decide +kernel)⟩

/-- A platform with no device. -/
def barePlatform : Platform := { Platform.reference with busMap := .empty, resetPc := 0x1000#64 }

/-- The state of `barePlatform`. -/
def bareState : State := { State.reset with bus := .empty, pc := 0x1000#64 }

/-- O39: a constructed machine whose first fetch is owned by no entry. -/
theorem witness_FirstFetchAtResetPc :
    construct barePlatform = .ok bareState ∧ memRead bareState barePlatform.resetPc 4 = .error (.invalidReadAddress 0x1000) ∧
    ∀ e ∈ busEntries barePlatform.busMap, ¬ Owns e barePlatform.resetPc.toNat := by
  decide +kernel

/-- O41: an instruction of each class, both values of each parameter, and a word that decodes to nothing. -/
theorem witness_FaultsByClass :
    (Instr.lui ⟨1#5⟩ 0#64).kind = .integer ∧ (Instr.jal ⟨1#5⟩ 0#64).kind = .control ∧ Instr.ebreak.kind = .fenceSystem ∧
    (Instr.ld ⟨1#5⟩ ⟨2#5⟩ 0#64).kind = .load ∧ (Instr.sd ⟨1#5⟩ ⟨2#5⟩ 0#64).kind = .store ∧
    ((Instr.remuw ⟨1#5⟩ ⟨2#5⟩ ⟨3#5⟩).kind = .mulDiv ∧ State.reset.execM = .standard ∧
      { State.reset with execM := .unimplemented }.execM = .unimplemented) ∧
    ((Instr.lrD ⟨1#5⟩ ⟨2#5⟩ false false).kind = .atomic ∧ State.reset.execA = .plain ∧
      { State.reset with execA := .unimplemented }.execA = .unimplemented) ∧
    (Instr.fld ⟨1#5⟩ ⟨2#5⟩ 0#64).kind = .float := by
  decide

/-- O41, last clause: a word that decodes to nothing, fetched by the step from reset. -/
theorem witness_undecoded :
    (∀ i, decode 0x00000000#32 ≠ .ok i) ∧ memRead State.reset State.reset.pc 4 = .ok (0#64, State.reset) ∧
    (0#64).extractLsb' 0 32 = 0x00000000#32 := by
  refine ⟨fun i h => ?_, by decide +kernel, by decide⟩
  have e : decode 0x00000000#32 = .error (.noFormat 0#7) := by decide +kernel
  rw [e] at h
  cases h

/-- A step does not fault. -/
def goesOn (o : Host.Outcome State Fault Refusal) : Bool :=
  match o with
  | .next _ => true
  | .fault _ => false
  | .refused _ => false

theorem goesOn_next {o : Host.Outcome State Fault Refusal} (h : goesOn o = true) : ∃ t, o = .next t := by
  unfold goesOn at h
  split at h
  · exact ⟨_, rfl⟩
  · cases h
  · cases h

/-- O42, O45 and O46: a state that meets the invariant, with an even pc, whose step answers a next state; it stores the
register x6 over the last doubleword. -/
theorem witness_StepKeepsInvariant :
    (before 0x2000 [(6, 0xFFF8)] [] 0x00633023).Inv ∧ (before 0x2000 [(6, 0xFFF8)] [] 0x00633023).pc.toNat % 2 = 0 ∧
    ∃ t, step (before 0x2000 [(6, 0xFFF8)] [] 0x00633023) = .next t :=
  ⟨⟨by decide +kernel, by decide +kernel, by decide +kernel, by decide +kernel⟩, by decide +kernel, goesOn_next (by decide +kernel)⟩

/-- O45, third clause, at both ends of the RAM. -/
theorem witness_PcStaysEven :
    InRam State.reset State.reset.pc.toNat 4 ∧ InRam { State.reset with pc := 0xFFFC#64 } (0xFFFC#64).toNat 4 :=
  ⟨⟨0x10000, 0, by decide +kernel, by decide⟩, ⟨0x10000, 0xFFFC, by decide +kernel, by decide⟩⟩

/-- A platform whose image has a byte at the last address of its RAM. -/
def imagePlatform : Platform := { Platform.reference with image := [(0xFFFF, 0x5A#8), (0x0, 0x13#8)] }

/-- O44, O47, O48: construction succeeds, the image's addresses are distinct and in a RAM, and another address is not in it. -/
theorem witness_ConstructionPlacesTheImage :
    construct imagePlatform = .ok { State.reset with mem := [(0x0, 0x13#8), (0xFFFF, 0x5A#8)] } ∧
    (∀ c ∈ imagePlatform.image, c.1 ≠ 0x1) ∧ imagePlatform.image.Pairwise (fun c d => c.1 ≠ d.1) ∧
    ((0xFFFF, 0x5A#8) : Nat × Byte) ∈ imagePlatform.image ∧ ramAt imagePlatform.busMap 0xFFFF = true := by
  decide +kernel

/-- O49: two ranges that share one address. -/
theorem witness_overlapping :
    ¬ (busEntries (.ram 0 0x80 (.ram 0x7F 1 .empty))).Pairwise (fun e e' => ¬ ∃ a, Owns e a ∧ Owns e' a) := by
  intro h
  have h1 := List.rel_of_pairwise_cons h (a' := (0x7F, .ram 1)) (by decide)
  exact h1 ⟨0x7F, by decide, by decide⟩

/-- O49: two ranges that touch, and no nested bus. -/
theorem witness_disjoint :
    (busEntries (.ram 0 0x80 (.ram 0x80 1 .empty))).Pairwise (fun e e' => ¬ ∃ a, Owns e a ∧ Owns e' a) ∧
    ∀ e ∈ busEntries (.ram 0 0x80 (.ram 0x80 1 .empty)), ∀ inner, e.2 ≠ .bus inner := by
  refine ⟨List.pairwise_pair.mpr ?_, ?_⟩
  · rintro ⟨a, ⟨_, h⟩, ⟨h', _⟩⟩
    have h1 : a < 0 + 0x80 := h
    have h2 : 0x80 ≤ a := h'
    omega
  · intro e he inner hb
    simp only [busEntries, List.mem_cons, List.not_mem_nil, or_false] at he
    obtain rfl | rfl := he <;> cases hb

/-- O50: a map with an entry, and the empty one. -/
theorem witness_BusSize : busEntries nestedBus ≠ [] ∧ busEntries .empty = [] := by decide

/-- O51: a well-formed map, the first and last address of an entry, and the addresses that no entry owns beside them. -/
theorem witness_ResolveFindsTheOwner :
    busWf gapBus = true ∧ (0x100, .ram 0x80) ∈ busEntries gapBus ∧ Owns (0x100, .ram 0x80) 0x100 ∧ Owns (0x100, .ram 0x80) 0x17F ∧
    (∀ e ∈ busEntries gapBus, ¬ Owns e 0xFF) ∧ (∀ e ∈ busEntries gapBus, ¬ Owns e 0x180) := by
  decide

/-- O52, the address as a number and as a register value. -/
theorem witness_MissFaultsByDirection :
    resolve State.reset.bus 0x10000 = .miss 0x10000 ∧ (0x10000#64).toNat = 0x10000 := by decide +kernel

/-- A map with one external device. -/
def deviceBus : Bus := .external 0x40 8 3 .empty

/-- O53: accesses of a RAM and of an external device that end one byte past it, of bytes and at each integer width above 1. -/
theorem witness_AccessPastTheEndFaults :
    (resolve State.reset.bus 0xFFFD = .found (.ram 0x10000) 0xFFFD ∧ (Leaf.ram 0x10000).size < 0xFFFD + 4 ∧
      (0xFFFD#64).toNat = 0xFFFD) ∧
    (resolve State.reset.bus 0xFFFF = .found (.ram 0x10000) 0xFFFF ∧ (Leaf.ram 0x10000).size < 0xFFFF + 2 ∧
      (Leaf.ram 0x10000).size < 0xFFFF + [0#8, 0#8].length) ∧
    (resolve State.reset.bus 0xFFF9 = .found (.ram 0x10000) 0xFFF9 ∧ (Leaf.ram 0x10000).size < 0xFFF9 + 8) ∧
    (resolve deviceBus 0x47 = .found (.external 8 3) 7 ∧ (Leaf.external 8 3).size < 7 + [0#8, 0#8].length ∧
      (Leaf.external 8 3).size < 7 + 2) := by
  decide +kernel

/-- O54 to O56: each width at the last address it fits, a width that is none of the four, and the canonical form. -/
theorem witness_IntegerAccess :
    Memory.wf State.reset.mem ∧ InRam State.reset 0xFFFF 1 ∧ InRam State.reset 0xFFFE 2 ∧ InRam State.reset 0xFFFC 4 ∧
    InRam State.reset 0xFFF8 8 ∧ (InRam State.reset 0xFFFD 3 ∧ ¬ (3 = 1 ∨ 3 = 2 ∨ 3 = 4 ∨ 3 = 8)) ∧
    InRam State.reset 0xFFFD ([1#8, 2#8, 3#8] : List Byte).length :=
  ⟨by decide +kernel, ⟨0x10000, 0xFFFF, by decide +kernel, by decide⟩, ⟨0x10000, 0xFFFE, by decide +kernel, by decide⟩,
    ⟨0x10000, 0xFFFC, by decide +kernel, by decide⟩, ⟨0x10000, 0xFFF8, by decide +kernel, by decide⟩,
    ⟨⟨0x10000, 0xFFFD, by decide +kernel, by decide⟩, by decide⟩, ⟨0x10000, 0xFFFD, by decide +kernel, by decide⟩⟩

/-- O57. -/
theorem witness_MixedWidthAccess :
    Memory.wf State.reset.mem ∧ busWf State.reset.bus = true ∧ InRam State.reset (0xFFF8#64).toNat 8 ∧ (0xFFF8#64).toNat + 8 ≤ 2 ^ 64 :=
  ⟨by decide +kernel, by decide +kernel, ⟨0x10000, 0xFFF8, by decide +kernel, by decide⟩, by decide⟩

/-- O58. -/
theorem witness_ExternalLoadAccessesOnce :
    resolve { addressing 0x44 with bus := deviceBus }.bus ({ addressing 0x44 with bus := deviceBus }.readX ⟨6#5⟩ + (-4#64)).toNat =
      .found (.external 8 3) 0 := by
  decide +kernel

/-- O59: a store over the next word, and one over the word after it. -/
theorem witness_StoreIsSeenByTheNextFetch :
    Memory.wf (addressing 0x4).mem ∧
    (InRam (addressing 0x4) ((addressing 0x4).pc + 4#64).toNat 4 ∧ (addressing 0x4).readX ⟨6#5⟩ + 0#64 = (addressing 0x4).pc + 4#64) ∧
    (InRam (addressing 0x4) ((addressing 0x4).pc + 8#64).toNat 4 ∧ (addressing 0x4).readX ⟨6#5⟩ + 4#64 = (addressing 0x4).pc + 8#64) :=
  ⟨by decide +kernel, ⟨⟨0x10000, 4, by decide +kernel, by decide⟩, by decide +kernel⟩,
    ⟨⟨0x10000, 8, by decide +kernel, by decide⟩, by decide +kernel⟩⟩

/-- O60, with the largest offset in reach. -/
theorem witness_PairsReachTheirValue : (⟨1#5⟩ : XReg).idx ≠ 0#5 ∧ (0x7FFFF7FF#32).toInt < 0x7FFFF800 := by decide

end Sys2Proof.Tests
end

