-- ==== Sys2Proof/Proofs/Scope.lean ====
section
/-! SUPPORT. What an instruction can answer, by its class (spec R291), and the opcodes of each class; from these, the scope
statement of R11. -/

namespace Sys2Proof

/-- The opcodes of the rows of each class in opcode_table.json. -/
def InstrClass.opcodes : InstrClass → List Nat
  | .integer => [0x13, 0x17, 0x1B, 0x33, 0x37, 0x3B]
  | .control => [0x63, 0x67, 0x6F]
  | .load => [0x03]
  | .store => [0x23]
  | .fenceSystem => [0x0F, 0x73]
  | .mulDiv => [0x33, 0x3B]
  | .atomic => [0x2F]
  | .float => [0x07, 0x27, 0x43, 0x47, 0x4B, 0x4F, 0x53]

/-- An instruction's word has an opcode of the instruction's class. -/
theorem encode_opcode_mem (i : Instr) : (opcodeOf (encode i)).toNat ∈ i.kind.opcodes := by
  cases i with
  | pause | ecall | ebreak => decide
  | _ => simp [encode, encS, encB, encR4, encAmo, Instr.kind, InstrClass.opcodes]

/-- The float opcodes are those of no other class. -/
theorem InstrClass.not_mem_float_opcodes {k : InstrClass} (h : k ≠ .float) :
    ∀ op ∈ k.opcodes, op ∉ InstrClass.float.opcodes := by
  cases k with
  | float => exact absurd rfl h
  | _ => decide

/-- The float class is told from the others by the opcode alone. -/
theorem kind_float_iff_opcode (i : Instr) :
    i.kind = .float ↔ (opcodeOf (encode i)).toNat ∈ InstrClass.float.opcodes := by
  have hop := encode_opcode_mem i
  refine ⟨fun h => h ▸ hop, fun h => ?_⟩
  by_contra hk
  exact InstrClass.not_mem_float_opcodes hk _ hop h

end Sys2Proof

namespace Sys2Proof.Machine

/-! ## A next state or a device fault -/

/-- The outcome is a next state, or the execute fault of a device: all that an implemented instruction can answer (R120). -/
def NextOrDeviceFault (o : Host.Outcome State Fault Refusal) : Prop :=
  (∃ t, o = .next t) ∨ ∃ f, o = .fault (.execute (.device f))

theorem NextOrDeviceFault.ne_unimplemented {o : Host.Outcome State Fault Refusal} (h : NextOrDeviceFault o) (v : Variant) :
    o ≠ .fault (.execute (.unimplemented v)) := by
  rcases h with ⟨t, rfl⟩ | ⟨f, rfl⟩
  · exact nofun
  · exact nofun

theorem load_nextOrDeviceFault (n : Nat) (ext : Word → Word) (rd : XReg) (addr : Word) (s : State) :
    NextOrDeviceFault (load n ext rd addr s) := by
  rcases load_cases n ext rd addr s with ⟨v, s', -, h⟩ | ⟨f, -, h⟩
  · exact .inl ⟨_, h⟩
  · exact .inr ⟨f, h⟩

theorem store_nextOrDeviceFault (n : Nat) (addr v : Word) (s : State) : NextOrDeviceFault (store n addr v s) := by
  rcases store_cases n addr v s with ⟨s', -, h⟩ | ⟨f, -, h⟩
  · exact .inl ⟨_, h⟩
  · exact .inr ⟨f, h⟩

theorem storeConditional_nextOrDeviceFault (n : Nat) (rd rs1 rs2 : XReg) (s : State) :
    NextOrDeviceFault (storeConditional n rd rs1 rs2 s) := by
  rcases storeConditional_cases n rd rs1 rs2 s with ⟨s', -, h⟩ | ⟨f, -, h⟩
  · exact .inl ⟨_, h⟩
  · exact .inr ⟨f, h⟩

theorem amo_nextOrDeviceFault (n : Nat) (op : AmoOp) (rd rs1 rs2 : XReg) (s : State) :
    NextOrDeviceFault (amo n op rd rs1 rs2 s) := by
  rcases amo_cases n op rd rs1 rs2 s with ⟨v, s', s'', -, -, h⟩ | ⟨f, h⟩
  · exact .inl ⟨_, h⟩
  · exact .inr ⟨f, h⟩

theorem branch_next (c : Cond) (rs1 rs2 : XReg) (imm : Word) (s : State) : ∃ t, branch c rs1 rs2 imm s = .next t := by
  obtain ⟨t, h, -⟩ := branch_completes c rs1 rs2 imm s
  exact ⟨t, h⟩

/-! ## What `exec` is, by class -/

section ByClass

variable {i : Instr}

theorem exec_integer (h : i.kind = .integer) (s : State) : ∃ t, exec i s = .next t := by
  cases i <;> cases h <;> exact ⟨_, rfl⟩

theorem exec_control (h : i.kind = .control) (s : State) : ∃ t, exec i s = .next t := by
  cases i with
  | jal | jalr => exact ⟨_, rfl⟩
  | beq | bne | blt | bge | bltu | bgeu => exact branch_next ..
  | _ => cases h

theorem exec_fenceSystem (h : i.kind = .fenceSystem) (s : State) : ∃ t, exec i s = .next t := by
  cases i <;> cases h <;> exact ⟨_, rfl⟩

theorem exec_load (h : i.kind = .load) (s : State) : NextOrDeviceFault (exec i s) := by
  cases i <;> cases h <;> exact load_nextOrDeviceFault ..

theorem exec_store (h : i.kind = .store) (s : State) : NextOrDeviceFault (exec i s) := by
  cases i <;> cases h <;> exact store_nextOrDeviceFault ..

/-- An M instruction is the shared shape under `EXEC_M` (R9). -/
theorem exec_mulDiv (h : i.kind = .mulDiv) (s : State) : ∃ op rd rs1 rs2, exec i s = mulDiv i op rd rs1 rs2 s := by
  cases i <;> cases h <;> exact ⟨_, _, _, _, rfl⟩

/-- An A instruction is the shared shape under `EXEC_A` around accesses that end in a next state or a device fault (R10). -/
theorem exec_atomic (h : i.kind = .atomic) (s : State) : ∃ p, exec i s = atomic i p s ∧ NextOrDeviceFault (p s) := by
  cases i with
  | lrW | lrD => exact ⟨_, rfl, load_nextOrDeviceFault ..⟩
  | scW | scD => exact ⟨_, rfl, storeConditional_nextOrDeviceFault ..⟩
  | _ => cases h <;> exact ⟨_, rfl, amo_nextOrDeviceFault ..⟩

theorem exec_float (h : i.kind = .float) (s : State) : exec i s = .fault (.execute (.unimplemented (.instr i))) := by
  cases i <;> cases h <;> rfl

/-- While M and A execute, an instruction outside the float class ends in a next state or a device fault (R291). -/
theorem exec_nextOrDeviceFault {s : State} (hk : i.kind ≠ .float) (hm : s.execM = .standard) (ha : s.execA = .plain) :
    NextOrDeviceFault (exec i s) := by
  cases h : i.kind with
  | integer => exact .inl (exec_integer h s)
  | control => exact .inl (exec_control h s)
  | load => exact exec_load h s
  | store => exact exec_store h s
  | fenceSystem => exact .inl (exec_fenceSystem h s)
  | mulDiv =>
    obtain ⟨op, rd, rs1, rs2, he⟩ := exec_mulDiv h s
    exact .inl ⟨_, he.trans (mulDiv_standard hm ..)⟩
  | atomic =>
    obtain ⟨p, he, hp⟩ := exec_atomic h s
    rwa [he, atomic_plain ha]
  | float => exact absurd h hk

end ByClass

/-- Settles O36: by class, the opcode tells the float rows apart, each of them raises, and every other instruction ends in a
next state or a device fault while M and A execute. -/
theorem floatIsUnimplemented : Obligations.FloatIsUnimplemented := by
  intro i s
  exact ⟨kind_float_iff_opcode i, fun h => exec_float h s, fun hk hm ha => (exec_nextOrDeviceFault hk hm ha).ne_unimplemented⟩

end Sys2Proof.Machine
end

/-! SUPPORT. The state of spec 10_state.md: what a step never changes (R24, R37), the registers construction leaves (R32, R33),
and x0 beside the other integer registers (R21). -/

namespace Sys2Proof.Machine

/-! ## What a step never changes -/

/-- A step that answers a next state has the effect every instruction has. -/
theorem step_effect {s t : State} (h : step s = .next t) : Effect s t := by
  obtain ⟨-, -, -, -, -, -, he⟩ := step_next h
  exact he

theorem Effect.readF {s t : State} (h : Effect s t) (r : FReg) : t.readF r = s.readF r :=
  State.readF_congr h.f r

theorem Effect.samePlatform {s t : State} (h : Effect s t) : SamePlatform s t :=
  ⟨h.bus, h.execM, h.execA⟩

/-- Settles O46: the f registers and the platform are parts of the effect of every step, and x0 reads 0 in every state. -/
theorem floatRegistersAndPlatformNeverChange : Obligations.FloatRegistersAndPlatformNeverChange := by
  intro s t h
  have he := step_effect h
  exact ⟨he.readF, he.samePlatform, t.readX_x0⟩

/-! ## What construction leaves -/

/-- Where construction answers a state, the bus map is well-formed (R38) and the state is this one (R32, R33, R34). -/
theorem construct_ok {p : Platform} {s : State} (h : construct p = .ok s) :
    busWf p.busMap = true ∧
      s = { x := Vector.replicate 32 0#64, f := Vector.replicate 32 0#64, pc := p.resetPc,
            mem := loadImage p.busMap [] p.image, bus := p.busMap, execM := p.execM, execA := p.execA, devLog := [] } := by
  unfold construct at h
  split at h
  case isTrue hwf => cases h; exact ⟨hwf, rfl⟩
  case isFalse => cases h

/-- Where the register file is all zero, every register reads 0. -/
theorem State.readX_of_zeros {s : State} (h : s.x = Vector.replicate 32 0#64) (r : XReg) : s.readX r = 0#64 := by
  simp [State.readX, h]

/-- Where the f file is all zero, every f register reads 0. -/
theorem State.readF_of_zeros {s : State} (h : s.f = Vector.replicate 32 0#64) (r : FReg) : s.readF r = 0#64 := by
  simp [State.readF, h]

/-- Settles O47: both register files are all zero, and the other fields are the platform's. -/
theorem constructionState : Obligations.ConstructionState := by
  intro p s h
  obtain ⟨-, rfl⟩ := construct_ok h
  exact ⟨State.readX_of_zeros rfl, State.readF_of_zeros rfl, rfl, rfl, rfl, rfl⟩

/-! ## x0 and the other integer registers -/

/-- A write to x0 leaves the state as it is (R21). -/
theorem State.writeX_x0 (s : State) (r : XReg) (v : Word) (h : r.idx = 0#5) : s.writeX r v = s :=
  if_pos h

theorem State.readX_writeX_same (s : State) (r : XReg) (v : Word) (h : r.idx ≠ 0#5) : (s.writeX r v).readX r = v := by
  rw [State.readX_writeX, if_pos ⟨rfl, h⟩]

theorem State.readX_writeX_of_ne (s : State) {r q : XReg} (v : Word) (h : q ≠ r) : (s.writeX r v).readX q = s.readX q := by
  rw [State.readX_writeX, if_neg fun hq => h hq.1]

/-- Settles O15: by whether the register is x0, and whether the register read is the one written. -/
theorem zeroRegisterAndPlainStorage : Obligations.ZeroRegisterAndPlainStorage := by
  intro s r q v
  exact ⟨fun h0 => ⟨s.readX_x0 r h0, s.writeX_x0 r v h0⟩, s.readX_writeX_same r v, s.readX_writeX_of_ne v⟩

end Sys2Proof.Machine

/-! SUPPORT. What every step keeps of the machine: the invariant of a constructed machine, and an even pc (spec
20_memory.md R52), with the class of a decoded instruction and what a control transfer decodes to. -/

namespace Sys2Proof

/-! ## The class of a decoded instruction, by the sub-dispatch that selected it (R83 to R100) -/

section Kind

variable {w : InstrWord} {i : Instr}

theorem decodeLoad_kind (h : decodeLoad w = some i) : i.kind = .load := by
  unfold decodeLoad at h
  split at h <;> cases h <;> rfl

theorem decodeLoadFp_kind (h : decodeLoadFp w = some i) : i.kind = .float := by
  unfold decodeLoadFp at h
  split at h <;> cases h <;> rfl

theorem decodeMiscMem_kind (h : decodeMiscMem w = some i) : i.kind = .fenceSystem := by
  unfold decodeMiscMem at h
  split at h
  · cases h; rfl
  · split at h <;> cases h <;> rfl

theorem decodeOpImm_kind (h : decodeOpImm w = some i) : i.kind = .integer := by
  unfold decodeOpImm at h
  (repeat' split at h) <;> cases h <;> rfl

theorem decodeOpImm32_kind (h : decodeOpImm32 w = some i) : i.kind = .integer := by
  unfold decodeOpImm32 at h
  (repeat' split at h) <;> cases h <;> rfl

theorem decodeStore_kind (h : decodeStore w = some i) : i.kind = .store := by
  unfold decodeStore at h
  split at h <;> cases h <;> rfl

theorem decodeStoreFp_kind (h : decodeStoreFp w = some i) : i.kind = .float := by
  unfold decodeStoreFp at h
  split at h <;> cases h <;> rfl

theorem decodeAmoWord_kind (h : decodeAmoWord w = some i) : i.kind = .atomic := by
  unfold decodeAmoWord at h
  (repeat' split at h) <;> cases h <;> rfl

theorem decodeAmoDoubleword_kind (h : decodeAmoDoubleword w = some i) : i.kind = .atomic := by
  unfold decodeAmoDoubleword at h
  (repeat' split at h) <;> cases h <;> rfl

theorem decodeAmo_kind (h : decodeAmo w = some i) : i.kind = .atomic := by
  unfold decodeAmo at h
  split at h
  · exact decodeAmoWord_kind h
  · exact decodeAmoDoubleword_kind h
  · cases h

theorem decodeOp_kind (h : decodeOp w = some i) : i.kind = .integer ∨ i.kind = .mulDiv := by
  unfold decodeOp at h
  (repeat' split at h) <;> cases h <;> simp [Instr.kind]

theorem decodeOp32_kind (h : decodeOp32 w = some i) : i.kind = .integer ∨ i.kind = .mulDiv := by
  unfold decodeOp32 at h
  (repeat' split at h) <;> cases h <;> simp [Instr.kind]

theorem decodeMadd_kind (h : decodeMadd w = some i) : i.kind = .float := by
  unfold decodeMadd at h
  split at h <;> cases h <;> rfl

theorem decodeMsub_kind (h : decodeMsub w = some i) : i.kind = .float := by
  unfold decodeMsub at h
  split at h <;> cases h <;> rfl

theorem decodeNmsub_kind (h : decodeNmsub w = some i) : i.kind = .float := by
  unfold decodeNmsub at h
  split at h <;> cases h <;> rfl

theorem decodeNmadd_kind (h : decodeNmadd w = some i) : i.kind = .float := by
  unfold decodeNmadd at h
  split at h <;> cases h <;> rfl

theorem decodeOpFpSingle_kind (h : decodeOpFpSingle w = some i) : i.kind = .float := by
  unfold decodeOpFpSingle at h
  (repeat' split at h) <;> cases h <;> rfl

theorem decodeOpFpDouble_kind (h : decodeOpFpDouble w = some i) : i.kind = .float := by
  unfold decodeOpFpDouble at h
  (repeat' split at h) <;> cases h <;> rfl

theorem decodeOpFp_kind (h : decodeOpFp w = some i) : i.kind = .float := by
  unfold decodeOpFp at h
  split at h
  · exact decodeOpFpSingle_kind h
  · exact decodeOpFpDouble_kind h
  · cases h

theorem decodeSystem_kind (h : decodeSystem w = some i) : i.kind = .fenceSystem := by
  unfold decodeSystem at h
  (repeat' split at h) <;> cases h <;> rfl

/-- A word that decodes to a control transfer has opcode BRANCH, JALR or JAL (R97 to R99). -/
theorem opcode_of_decode_control (h : decode w = .ok i) (hk : i.kind = .control) :
    opcodeOf w = 0x63#7 ∨ opcodeOf w = 0x67#7 ∨ opcodeOf w = 0x6F#7 := by
  have hne {k : InstrClass} (hik : i.kind = k) (hkc : k ≠ .control) : False := hkc (hik.symm.trans hk)
  have hs := Laws.subDispatch_of_decode h
  unfold subDispatch at hs
  split at hs
  case h_1 => exact (hne (decodeLoad_kind hs) nofun).elim
  case h_2 => exact (hne (decodeLoadFp_kind hs) nofun).elim
  case h_3 => exact (hne (decodeMiscMem_kind hs) nofun).elim
  case h_4 => exact (hne (decodeOpImm_kind hs) nofun).elim
  case h_5 => cases hs; cases hk
  case h_6 => exact (hne (decodeOpImm32_kind hs) nofun).elim
  case h_7 => exact (hne (decodeStore_kind hs) nofun).elim
  case h_8 => exact (hne (decodeStoreFp_kind hs) nofun).elim
  case h_9 => exact (hne (decodeAmo_kind hs) nofun).elim
  case h_10 => exact ((decodeOp_kind hs).elim (hne · nofun) (hne · nofun)).elim
  case h_11 => cases hs; cases hk
  case h_12 => exact ((decodeOp32_kind hs).elim (hne · nofun) (hne · nofun)).elim
  case h_13 => exact (hne (decodeMadd_kind hs) nofun).elim
  case h_14 => exact (hne (decodeMsub_kind hs) nofun).elim
  case h_15 => exact (hne (decodeNmsub_kind hs) nofun).elim
  case h_16 => exact (hne (decodeNmadd_kind hs) nofun).elim
  case h_17 => exact (hne (decodeOpFp_kind hs) nofun).elim
  case h_18 hop => exact .inl hop
  case h_19 hop => exact .inr (.inl hop)
  case h_20 hop => exact .inr (.inr hop)
  case h_21 => exact (hne (decodeSystem_kind hs) nofun).elim
  case h_22 => cases hs

end Kind

/-! ## Even values -/

/-- A value whose last bit is written 0 and which is then sign-extended is even: the B and J immediates (R76, R78). -/
theorem signExtend_append_zero_even {n : Nat} (v : BitVec n) : ((v ++ 0#1).signExtend 64).toNat % 2 = 0 := by
  have h : ((v ++ 0#1).signExtend 64).getLsbD 0 = false := by
    rw [BitVec.getLsbD_signExtend, BitVec.getLsbD_append]
    simp
  rw [← BitVec.testBit_toNat, Nat.testBit_zero, decide_eq_false_iff_not] at h
  omega

theorem immB_even (w : InstrWord) : (immB w).toNat % 2 = 0 := signExtend_append_zero_even _

theorem immJ_even (w : InstrWord) : (immJ w).toNat % 2 = 0 := signExtend_append_zero_even _

theorem add_even {a b : Word} (ha : a.toNat % 2 = 0) (hb : b.toNat % 2 = 0) : (a + b).toNat % 2 = 0 := by
  rw [BitVec.toNat_add]
  omega

/-- Clearing bit 0 rounds down to a multiple of 2 (R154). -/
theorem and_not_one (v : Word) : v &&& ~~~1#64 = BitVec.ofNat 64 (2 * (v.toNat / 2)) := by
  have h : v &&& ~~~1#64 = (v >>> 1) <<< 1 := by
    ext j hj
    rw [BitVec.getElem_and, BitVec.getElem_not, BitVec.getElem_one]
    rcases j with _ | j
    · simp
    · simp [hj, Nat.add_comm 1 j]
  apply BitVec.eq_of_toNat_eq
  simp only [h, BitVec.toNat_shiftLeft, BitVec.toNat_ushiftRight, BitVec.toNat_ofNat, Nat.shiftLeft_eq,
    Nat.shiftRight_eq_div_pow]
  omega

/-- The branch instruction of each condition (R155 to R160). -/
def Machine.Cond.branchInstr (c : Machine.Cond) (rs1 rs2 : XReg) (imm : Word) : Instr :=
  match c with
  | .eq => .beq rs1 rs2 imm
  | .ne => .bne rs1 rs2 imm
  | .lt => .blt rs1 rs2 imm
  | .ge => .bge rs1 rs2 imm
  | .ltu => .bltu rs1 rs2 imm
  | .geu => .bgeu rs1 rs2 imm

/-- BRANCH words decode to the branch of some condition with the B immediate (R97). -/
theorem decodeBranch_cases {w : InstrWord} {i : Instr} (h : decodeBranch w = some i) :
    ∃ c : Machine.Cond, i = c.branchInstr (rs1X w) (rs2X w) (immB w) := by
  unfold decodeBranch at h
  split at h
  case h_1 => cases h; exact ⟨.eq, rfl⟩
  case h_2 => cases h; exact ⟨.ne, rfl⟩
  case h_3 => cases h; exact ⟨.lt, rfl⟩
  case h_4 => cases h; exact ⟨.ge, rfl⟩
  case h_5 => cases h; exact ⟨.ltu, rfl⟩
  case h_6 => cases h; exact ⟨.geu, rfl⟩
  case h_7 => cases h

theorem decodeJalr_eq {w : InstrWord} {i : Instr} (h : decodeJalr w = some i) : i = .jalr (rdX w) (rs1X w) (immI w) := by
  unfold decodeJalr at h
  split at h <;> cases h
  rfl

/-- What a word that decodes to a control transfer decodes to (R97 to R99). -/
theorem decode_control_cases {w : InstrWord} {i : Instr} (h : decode w = .ok i) (hk : i.kind = .control) :
    (∃ c : Machine.Cond, i = c.branchInstr (rs1X w) (rs2X w) (immB w)) ∨ i = .jalr (rdX w) (rs1X w) (immI w) ∨
      i = .jal (rdX w) (immJ w) := by
  have hs := Laws.subDispatch_of_decode h
  rcases opcode_of_decode_control h hk with hop | hop | hop <;> simp only [subDispatch, hop] at hs
  · exact .inl (decodeBranch_cases hs)
  · exact .inr (.inl (decodeJalr_eq hs))
  · exact .inr (.inr (Option.some.inj hs).symm)

end Sys2Proof

namespace Sys2Proof.Machine

/-- Settles O42: keeping the invariant is part of the effect of every step. -/
theorem stepKeepsInvariant : Obligations.StepKeepsInvariant := by
  intro s t hi h
  exact (step_effect h).inv hi

/-! ## Where control transfers go (R52, R153 to R160) -/

theorem exec_branchInstr (c : Cond) (rs1 rs2 : XReg) (imm : Word) (s : State) :
    exec (c.branchInstr rs1 rs2 imm) s = branch c rs1 rs2 imm s := by
  cases c <;> rfl

/-- A branch answers a next state, at its target where the condition holds and at `pc + 4` otherwise. -/
theorem exec_branchInstr_pc (c : Cond) (rs1 rs2 : XReg) (imm : Word) (s : State) :
    ∃ t, exec (c.branchInstr rs1 rs2 imm) s = .next t ∧
      t.pc = if cmp c (s.readX rs1) (s.readX rs2) then s.pc + imm else s.pc + 4#64 := by
  obtain ⟨t, ht, ho⟩ := branch_completes c rs1 rs2 imm s
  exact ⟨t, (exec_branchInstr ..).trans ht, ho.pc⟩

theorem exec_jal_pc (rd : XReg) (imm : Word) (s : State) : ∃ t, exec (.jal rd imm) s = .next t ∧ t.pc = s.pc + imm :=
  ⟨_, rfl, rfl⟩

theorem exec_jalr_pc (rd rs1 : XReg) (imm : Word) (s : State) :
    ∃ t, exec (.jalr rd rs1 imm) s = .next t ∧ t.pc = BitVec.ofNat 64 (2 * ((s.readX rs1 + imm).toNat / 2)) :=
  ⟨_, rfl, and_not_one _⟩

/-- A decoded instruction leaves an even pc even: `pc + 4`, an even displacement, or JALR's cleared bit 0 (R52). -/
theorem exec_pc_even {w : InstrWord} {i : Instr} {s t : State} (hd : decode w = .ok i) (h : exec i s = .next t)
    (hpc : s.pc.toNat % 2 = 0) : t.pc.toNat % 2 = 0 := by
  have hnext : (s.pc + 4#64).toNat % 2 = 0 := add_even hpc rfl
  by_cases hk : i.kind = .control
  · rcases decode_control_cases hd hk with ⟨c, rfl⟩ | rfl | rfl
    · obtain ⟨u, hu, hpc'⟩ := exec_branchInstr_pc c (rs1X w) (rs2X w) (immB w) s
      cases hu.symm.trans h
      rw [hpc']
      split
      · exact add_even hpc (immB_even w)
      · exact hnext
    · obtain ⟨u, hu, hpc'⟩ := exec_jalr_pc (rdX w) (rs1X w) (immI w) s
      cases hu.symm.trans h
      rw [hpc', BitVec.toNat_ofNat]
      omega
    · obtain ⟨u, hu, hpc'⟩ := exec_jal_pc (rdX w) (immJ w) s
      cases hu.symm.trans h
      rw [hpc']
      exact add_even hpc (immJ_even w)
  · rcases exec_canOnly i s with ⟨u, hu, -, hpc' | hc⟩ | ⟨e, he⟩
    · cases hu.symm.trans h
      rw [hpc']
      exact hnext
    · exact absurd hc hk
    · cases he.symm.trans h

theorem step_pc_even {s t : State} (hpc : s.pc.toNat % 2 = 0) (h : step s = .next t) : t.pc.toNat % 2 = 0 := by
  obtain ⟨w, s', i, hf, hd, he, -⟩ := step_next h
  exact exec_pc_even hd he (by rwa [(fetch_sameButLog hf).pc])

/-- Settles O45: by what a control transfer decodes to, and where each control transfer goes. -/
theorem pcStaysEven : Obligations.PcStaysEven := by
  refine ⟨fun s t => step_pc_even, fun s rd rs1 rs2 imm => ⟨exec_jal_pc rd imm s, exec_jalr_pc rd rs1 imm s, ?_⟩,
    fun s hr => ⟨_, memRead_inRam (by decide) hr⟩⟩
  intro p hp
  obtain ⟨c, rfl⟩ : ∃ c : Cond, p = (c, c.branchInstr rs1 rs2 imm) := by
    simp only [List.mem_cons, List.not_mem_nil, or_false] at hp
    rcases hp with rfl | rfl | rfl | rfl | rfl | rfl <;> exact ⟨_, rfl⟩
  exact exec_branchInstr_pc c rs1 rs2 imm s

end Sys2Proof.Machine

/-! SUPPORT. The bus of spec 20_memory.md: its size, the maps construction refuses, resolution (R37 to R41), and the faults of
an access that misses or runs past a device's end (R40, R43). -/

namespace Sys2Proof.Machine

/-! ## A bus map as the list of its entries (R37) -/

/-- The bus map with one more entry in front. -/
def busCons (e : Nat × EntryDevice) (rest : Bus) : Bus :=
  match e.2 with
  | .ram size => .ram e.1 size rest
  | .external size id => .external e.1 size id rest
  | .bus inner => .nested e.1 inner rest

/-- A bus map is empty or an entry in front of a bus map. -/
theorem busCons_induction {motive : Bus → Prop} (empty : motive .empty)
    (cons : ∀ e rest, motive rest → motive (busCons e rest)) (bus : Bus) : motive bus := by
  induction bus with
  | empty => exact empty
  | ram base size rest ih => exact cons (base, .ram size) rest ih
  | external base size id rest ih => exact cons (base, .external size id) rest ih
  | nested base inner rest _ ih => exact cons (base, .bus inner) rest ih

@[simp] theorem busEntries_empty : busEntries .empty = [] := rfl

@[simp] theorem busEntries_busCons (e : Nat × EntryDevice) (rest : Bus) :
    busEntries (busCons e rest) = e :: busEntries rest := by
  obtain ⟨base, d⟩ := e
  cases d <;> rfl

@[simp] theorem busSize_busCons (e : Nat × EntryDevice) (rest : Bus) :
    busSize (busCons e rest) = max (e.1 + e.2.size) (busSize rest) := by
  obtain ⟨base, d⟩ := e
  cases d <;> rfl

theorem resolve_busCons (e : Nat × EntryDevice) (rest : Bus) (a : Nat) :
    resolve (busCons e rest) a = if Owns e a then e.2.reach (a - e.1) else resolve rest a := by
  obtain ⟨base, d⟩ := e
  cases d <;> rfl

theorem rangeClear_busCons (base size : Nat) (e : Nat × EntryDevice) (rest : Bus) :
    rangeClear base size (busCons e rest) = (rangesDisjoint base size e.1 e.2.size && rangeClear base size rest) := by
  obtain ⟨base', d⟩ := e
  cases d <;> rfl

/-- Every bus nested at this entry is well-formed. -/
def InnerWf (e : Nat × EntryDevice) : Prop := ∀ inner, e.2 = .bus inner → busWf inner = true

theorem busWf_busCons (e : Nat × EntryDevice) (rest : Bus) :
    busWf (busCons e rest) = true ↔ rangeClear e.1 e.2.size rest = true ∧ InnerWf e ∧ busWf rest = true := by
  obtain ⟨base, d⟩ := e
  cases d <;> simp [busCons, busWf, InnerWf, EntryDevice.size, and_assoc]

/-! ## The size of a bus (R37, D9) -/

theorem busEntry_end_le_busSize {bus : Bus} {e : Nat × EntryDevice} (h : e ∈ busEntries bus) :
    e.1 + e.2.size ≤ busSize bus := by
  induction bus using busCons_induction with
  | empty => cases h
  | cons e' rest ih =>
    rw [busSize_busCons]
    rw [busEntries_busCons, List.mem_cons] at h
    rcases h with rfl | h
    · exact Nat.le_max_left _ _
    · exact (ih h).trans (Nat.le_max_right _ _)

/-- The size of a bus is the end of one of its entries, or 0 for the empty bus. -/
theorem busSize_attained (bus : Bus) :
    (busEntries bus = [] ∧ busSize bus = 0) ∨ ∃ e ∈ busEntries bus, e.1 + e.2.size = busSize bus := by
  induction bus using busCons_induction with
  | empty => exact .inl ⟨rfl, rfl⟩
  | cons e rest ih =>
    rw [busSize_busCons, busEntries_busCons]
    right
    rcases Nat.le_total (busSize rest) (e.1 + e.2.size) with hle | hle
    · exact ⟨e, List.mem_cons_self, (Nat.max_eq_left hle).symm⟩
    · rw [Nat.max_eq_right hle]
      rcases ih with ⟨-, h0⟩ | ⟨e', he', h⟩
      · exact ⟨e, List.mem_cons_self, by omega⟩
      · exact ⟨e', List.mem_cons_of_mem _ he', h⟩

/-- Settles O50: no entry ends above the size, and the size is an entry's end unless there is no entry. -/
theorem busSize_largestEnd : Obligations.BusSize := by
  intro bus
  refine ⟨fun e he => busEntry_end_le_busSize he, fun hne => ?_, fun hnil => ?_⟩
  · exact (busSize_attained bus).resolve_left fun h => hne h.1
  · rcases busSize_attained bus with ⟨-, h0⟩ | ⟨e, he, -⟩
    · exact h0
    · rw [hnil] at he; cases he

/-! ## Disjoint ranges and construction (R38) -/

/-- No address is owned by both entries. -/
abbrev NoCommonAddress (e e' : Nat × EntryDevice) : Prop := ¬ ∃ a, Owns e a ∧ Owns e' a

theorem rangesDisjoint_iff (base size base' size' : Nat) :
    rangesDisjoint base size base' size' = true ↔ ¬ ∃ a, InRange base size a ∧ InRange base' size' a := by
  constructor
  · rintro h ⟨a, ha, ha'⟩
    exact not_inRange_of_disjoint h ha' ha
  · intro h
    by_contra hd
    simp only [rangesDisjoint, Bool.or_eq_true, beq_iff_eq, decide_eq_true_eq] at hd
    exact h ⟨max base base', by omega, by omega⟩

theorem rangeClear_iff (e : Nat × EntryDevice) (bus : Bus) :
    rangeClear e.1 e.2.size bus = true ↔ ∀ e' ∈ busEntries bus, NoCommonAddress e e' := by
  induction bus using busCons_induction with
  | empty => simp [rangeClear]
  | cons e' rest ih =>
    rw [rangeClear_busCons, Bool.and_eq_true, rangesDisjoint_iff, ih, busEntries_busCons, List.forall_mem_cons]

/-- A bus map is well-formed where its entries share no address and the buses nested in it are well-formed. -/
theorem busWf_iff (bus : Bus) :
    busWf bus = true ↔ (busEntries bus).Pairwise NoCommonAddress ∧ ∀ e ∈ busEntries bus, InnerWf e := by
  induction bus using busCons_induction with
  | empty => simp [busWf]
  | cons e rest ih =>
    rw [busWf_busCons, rangeClear_iff, ih, busEntries_busCons, List.pairwise_cons, List.forall_mem_cons]
    tauto

theorem construct_of_wf {p : Platform} (h : busWf p.busMap = true) : ∃ s, construct p = .ok s :=
  ⟨_, if_pos h⟩

theorem construct_of_not_wf {p : Platform} (h : ¬ busWf p.busMap = true) : construct p = .error .overlappingBusMap :=
  if_neg h

/-- Settles O49: construction refuses a map exactly where it is not well-formed, and that is by its entries' ranges. -/
theorem overlappingMapIsRefused : Obligations.OverlappingMapIsRefused := by
  intro p
  refine ⟨fun hov => construct_of_not_wf fun hwf => hov ((busWf_iff _).1 hwf).1, fun hdis hflat => construct_of_wf ?_⟩
  exact (busWf_iff _).2 ⟨hdis, fun e he inner hinner => absurd hinner (hflat e he inner)⟩

/-! ## Resolution (R39) -/

/-- Resolution goes to the first entry that owns the address, and is a miss where none does. -/
theorem resolve_eq_find (bus : Bus) (a : Nat) :
    resolve bus a = ((busEntries bus).find? fun e => decide (Owns e a)).elim (.miss a) fun e => e.2.reach (a - e.1) := by
  induction bus using busCons_induction with
  | empty => rfl
  | cons e rest ih =>
    rw [resolve_busCons, busEntries_busCons, List.find?_cons, ih]
    by_cases ho : Owns e a
    · simp [ho]
    · simp [ho]

/-- In a well-formed bus map an address has at most one owner. -/
theorem owner_unique {bus : Bus} (hw : busWf bus = true) {a : Nat} {e e' : Nat × EntryDevice} (he : e ∈ busEntries bus)
    (he' : e' ∈ busEntries bus) (ho : Owns e a) (ho' : Owns e' a) : e' = e := by
  have : Std.Symm NoCommonAddress := ⟨fun _ _ h ⟨a, ha, ha'⟩ => h ⟨a, ha', ha⟩⟩
  obtain ⟨hdisjoint, -⟩ := (busWf_iff bus).1 hw
  by_contra hne
  exact hdisjoint.forall he' he hne ⟨a, ho', ho⟩

theorem resolve_of_owns {bus : Bus} (hw : busWf bus = true) {a : Nat} {e : Nat × EntryDevice} (he : e ∈ busEntries bus)
    (ho : Owns e a) : resolve bus a = e.2.reach (a - e.1) := by
  rw [resolve_eq_find]
  cases hf : (busEntries bus).find? fun e => decide (Owns e a) with
  | none => exact absurd (decide_eq_true ho) (List.find?_eq_none.1 hf e he)
  | some e' =>
    have ho' : Owns e' a := by simpa using List.find?_some hf
    rw [owner_unique hw he (List.mem_of_find?_eq_some hf) ho ho']
    rfl

theorem resolve_of_no_owner {bus : Bus} {a : Nat} (h : ∀ e ∈ busEntries bus, ¬ Owns e a) : resolve bus a = .miss a := by
  rw [resolve_eq_find, List.find?_eq_none.2 fun e he => by simpa using h e he]
  rfl

/-- Settles O51: resolution is by the first owning entry, which is the only one; the examples are computed. -/
theorem resolveFindsTheOwner : Obligations.ResolveFindsTheOwner := by
  refine ⟨fun bus hw a => ⟨fun e he ho => ⟨resolve_of_owns hw he ho, fun e' he' ho' => owner_unique hw he he' ho ho'⟩,
    resolve_of_no_owner⟩, fun rest => ⟨rfl, rfl⟩, rfl, rfl⟩

/-! ## Misses (R40, R275) -/

section Miss

variable {s : State} {a m : Nat} (h : resolve s.bus a = .miss m)
include h

theorem busReadBytes_miss (n : Nat) : busReadBytes s a n = .error (.invalidReadAddress m) := by
  simp only [busReadBytes, h]

theorem busWriteBytes_miss (bs : List Byte) : busWriteBytes s a bs = .error (.invalidWriteAddress m) := by
  simp only [busWriteBytes, h]

theorem busReadInt_miss (n : Nat) (e : Endian) (sg : Bool) : busReadInt s a n e sg = .error (.invalidReadAddress m) := by
  unfold busReadInt
  split
  · rw [busReadBytes_miss h]
  · rw [h]

theorem busWriteInt_miss (n : Nat) (e : Endian) (v : Word) : busWriteInt s a v n e = .error (.invalidWriteAddress m) := by
  unfold busWriteInt
  split
  · exact busWriteBytes_miss h _
  · rw [h]

end Miss

/-- Settles O52: each of the four operations resolves first; `MemRead` and `MemWrite` are two of their integer forms. -/
theorem missFaultsByDirection : Obligations.MissFaultsByDirection := by
  intro s a m h
  refine ⟨busReadBytes_miss h, busWriteBytes_miss h, busReadInt_miss h, busWriteInt_miss h, ?_⟩
  rintro addr n v rfl
  exact ⟨busReadInt_miss h .., busWriteInt_miss h ..⟩

/-! ## Byte order (R44) -/

@[simp] theorem orderBytes_length (e : Endian) (bs : List Byte) : (orderBytes e bs).length = bs.length := by
  cases e with
  | little => rfl
  | big => exact List.length_reverse

@[simp] theorem orderBytes_orderBytes (e : Endian) (bs : List Byte) : orderBytes e (orderBytes e bs) = bs := by
  cases e with
  | little => rfl
  | big => exact List.reverse_reverse bs

/-- Where, among the `n` bytes of an access, its `k`-th least significant byte lies. -/
def Endian.position (e : Endian) (n k : Nat) : Nat :=
  match e with
  | .little => k
  | .big => n - 1 - k

theorem Endian.position_lt (e : Endian) {n k : Nat} (hk : k < n) : e.position n k < n := by
  cases e with
  | little => exact hk
  | big => show n - 1 - k < n; omega

theorem orderBytes_getElem? (e : Endian) (bs : List Byte) {k : Nat} (hk : k < bs.length) :
    (orderBytes e bs)[k]? = bs[e.position bs.length k]? := by
  cases e with
  | little => rfl
  | big => exact List.getElem?_reverse hk

/-! ## Integer accesses as accesses of bytes (R44) -/

theorem busReadInt_of_bytes {s t : State} {a n : Nat} {bs : List Byte} (hn : IntWidth n) (e : Endian) (sg : Bool)
    (h : busReadBytes s a n = .ok (bs, t)) :
    busReadInt s a n e sg = .ok (extendBytes sg n (packLittle (orderBytes e bs)), t) := by
  rw [busReadInt, if_pos hn, h]

theorem busReadInt_of_fault {s : State} {a n : Nat} {f : DeviceFault} (hn : IntWidth n) (e : Endian) (sg : Bool)
    (h : busReadBytes s a n = .error f) : busReadInt s a n e sg = .error f := by
  rw [busReadInt, if_pos hn, h]

theorem busWriteInt_eq {n : Nat} (hn : IntWidth n) (s : State) (a : Nat) (v : Word) (e : Endian) :
    busWriteInt s a v n e = busWriteBytes s a (orderBytes e (unpackLittle n v.toNat)) :=
  if_pos hn

theorem busReadInt_badWidth {s : State} {a n loc : Nat} {d : Leaf} (hn : ¬ IntWidth n) (e : Endian) (sg : Bool)
    (h : resolve s.bus a = .found d loc) : busReadInt s a n e sg = .error (.invalidReadSize n) := by
  rw [busReadInt, if_neg hn, h]

theorem busWriteInt_badWidth {s : State} {a n loc : Nat} {d : Leaf} (hn : ¬ IntWidth n) (e : Endian) (v : Word)
    (h : resolve s.bus a = .found d loc) : busWriteInt s a v n e = .error (.invalidWriteSize n) := by
  rw [busWriteInt, if_neg hn, h]

/-! ## Accesses past a device's end (R43) -/

section PastEnd

variable {s : State} {a loc : Nat}

theorem busReadBytes_pastRam {size n : Nat} (h : resolve s.bus a = .found (.ram size) loc) (hn : size < loc + n) :
    busReadBytes s a n = .error (.invalidReadAddress loc) := by
  simp only [busReadBytes, h]
  exact if_neg (Nat.not_le.2 hn)

theorem busWriteBytes_pastRam {size : Nat} {bs : List Byte} (h : resolve s.bus a = .found (.ram size) loc)
    (hn : size < loc + bs.length) : busWriteBytes s a bs = .error (.invalidWriteAddress loc) := by
  simp only [busWriteBytes, h]
  exact if_neg (Nat.not_le.2 hn)

theorem busReadBytes_pastExternal {size id n : Nat} (h : resolve s.bus a = .found (.external size id) loc)
    (hn : size < loc + n) :
    busReadBytes s a n = .error (reportedReadFault (Config.boundsReport s.devLog ⟨id, loc, .read n⟩)) := by
  simp only [busReadBytes, h]
  exact if_neg (Nat.not_le.2 hn)

theorem busWriteBytes_pastExternal {size id : Nat} {bs : List Byte} (h : resolve s.bus a = .found (.external size id) loc)
    (hn : size < loc + bs.length) :
    busWriteBytes s a bs = .error (reportedWriteFault (Config.boundsReport s.devLog ⟨id, loc, .write bs⟩)) := by
  simp only [busWriteBytes, h]
  exact if_neg (Nat.not_le.2 hn)

/-- The outcome is one of the two faults that a read past a device's end may be. -/
def FaultsAsRead {α : Type} (x : Except DeviceFault α) : Prop :=
  ∃ c, x = .error (.invalidReadAddress c) ∨ x = .error (.invalidReadSize c)

/-- The outcome is one of the two faults that a write past a device's end may be. -/
def FaultsAsWrite {α : Type} (x : Except DeviceFault α) : Prop :=
  ∃ c, x = .error (.invalidWriteAddress c) ∨ x = .error (.invalidWriteSize c)

theorem reportedReadFault_faultsAsRead {α : Type} (r : AccessReport) :
    FaultsAsRead (.error (reportedReadFault r) : Except DeviceFault α) := by
  unfold reportedReadFault
  split
  · exact ⟨_, .inr rfl⟩
  · exact ⟨_, .inl rfl⟩

theorem reportedWriteFault_faultsAsWrite {α : Type} (r : AccessReport) :
    FaultsAsWrite (.error (reportedWriteFault r) : Except DeviceFault α) := by
  unfold reportedWriteFault
  split
  · exact ⟨_, .inr rfl⟩
  · exact ⟨_, .inl rfl⟩

theorem busReadBytes_pastEnd {d : Leaf} {n : Nat} (h : resolve s.bus a = .found d loc) (hn : d.size < loc + n) :
    FaultsAsRead (busReadBytes s a n) := by
  cases d with
  | ram size => exact ⟨loc, .inl (busReadBytes_pastRam h hn)⟩
  | external size id => exact busReadBytes_pastExternal h hn ▸ reportedReadFault_faultsAsRead _

theorem busWriteBytes_pastEnd {d : Leaf} {bs : List Byte} (h : resolve s.bus a = .found d loc)
    (hn : d.size < loc + bs.length) : FaultsAsWrite (busWriteBytes s a bs) := by
  cases d with
  | ram size => exact ⟨loc, .inl (busWriteBytes_pastRam h hn)⟩
  | external size id => exact busWriteBytes_pastExternal h hn ▸ reportedWriteFault_faultsAsWrite _

theorem busReadInt_pastEnd {d : Leaf} {n : Nat} (hw : IntWidth n) (e : Endian) (sg : Bool)
    (h : resolve s.bus a = .found d loc) (hn : d.size < loc + n) : FaultsAsRead (busReadInt s a n e sg) := by
  obtain ⟨c, hf | hf⟩ := busReadBytes_pastEnd h hn
  · exact ⟨c, .inl (busReadInt_of_fault hw e sg hf)⟩
  · exact ⟨c, .inr (busReadInt_of_fault hw e sg hf)⟩

theorem busWriteInt_pastEnd {d : Leaf} {n : Nat} (hw : IntWidth n) (e : Endian) (v : Word)
    (h : resolve s.bus a = .found d loc) (hn : d.size < loc + n) : FaultsAsWrite (busWriteInt s a v n e) := by
  rw [busWriteInt_eq hw]
  exact busWriteBytes_pastEnd h (by simpa using hn)

theorem busReadInt_pastRam {size n : Nat} (hw : IntWidth n) (e : Endian) (sg : Bool)
    (h : resolve s.bus a = .found (.ram size) loc) (hn : size < loc + n) :
    busReadInt s a n e sg = .error (.invalidReadAddress loc) :=
  busReadInt_of_fault hw e sg (busReadBytes_pastRam h hn)

theorem busWriteInt_pastRam {size n : Nat} (hw : IntWidth n) (e : Endian) (v : Word)
    (h : resolve s.bus a = .found (.ram size) loc) (hn : size < loc + n) :
    busWriteInt s a v n e = .error (.invalidWriteAddress loc) := by
  rw [busWriteInt_eq hw]
  exact busWriteBytes_pastRam h (by simpa using hn)

end PastEnd

/-- Settles O53: byte accesses by the kind of device, integer accesses through the byte accesses they are. -/
theorem accessPastTheEndFaults : Obligations.AccessPastTheEndFaults := by
  intro s a loc d h
  refine ⟨fun n => busReadBytes_pastEnd h, fun bs => busWriteBytes_pastEnd h,
    fun n e sg v hw hn => ⟨busReadInt_pastEnd hw e sg h hn, busWriteInt_pastEnd hw e v h hn⟩, ?_⟩
  rintro size rfl
  refine ⟨fun n => busReadBytes_pastRam h, fun bs => busWriteBytes_pastRam h, fun n e sg v hw hn =>
    ⟨busReadInt_pastRam hw e sg h hn, busWriteInt_pastRam hw e v h hn, ?_⟩⟩
  rintro addr rfl
  exact ⟨busReadInt_pastRam hw _ _ h hn, busWriteInt_pastRam hw _ v h hn⟩

end Sys2Proof.Machine

/-! SUPPORT. Reads and writes of the devices of spec 20_memory.md: integers in a RAM in both byte orders (R44), storage and
accesses of different widths (R45, R49), and loads from an external device (R55). -/

namespace Sys2Proof.Machine

/-! ## Integer reads of a RAM (R44) -/

/-- Byte `k` of a value packed from bytes is the `k`-th of them. -/
theorem packLittle_byte {bs : List Byte} {k : Nat} (hk : k < bs.length) :
    bs[k]? = some (BitVec.ofNat 8 (packLittle bs / 256 ^ k)) := by
  rw [← unpackLittle_getElem? bs.length _ k hk, unpackLittle_packLittle]

theorem extendBytes_unsigned (n v : Nat) : extendBytes false n v = BitVec.ofNat 64 v := rfl

theorem extendBytes_signed (n v : Nat) : extendBytes true n v = (BitVec.ofNat (8 * n) v).signExtend 64 := rfl

/-- The low `8n` bits of an extended value are the value's. -/
theorem extendBytes_getLsbD_low (sg : Bool) {n v j : Nat} (hj : j < 8 * n) (hn : 8 * n ≤ 64) :
    (extendBytes sg n v).getLsbD j = v.testBit j := by
  have h64 : j < 64 := by omega
  cases sg with
  | false =>
    rw [extendBytes_unsigned, BitVec.getLsbD_ofNat]
    simp only [h64, decide_true, Bool.true_and]
  | true =>
    rw [extendBytes_signed, BitVec.getLsbD_signExtend, if_pos hj, BitVec.getLsbD_ofNat]
    simp only [h64, hj, decide_true, Bool.true_and]

/-- The bits above the low `8n` are all the top one of those, or all 0. -/
theorem extendBytes_getLsbD_high (sg : Bool) {n v j : Nat} (hn : 0 < n) (hv : v < 256 ^ n) (hj : 8 * n ≤ j)
    (h64 : j < 64) : (extendBytes sg n v).getLsbD j = (sg && (extendBytes sg n v).getLsbD (8 * n - 1)) := by
  cases sg with
  | false =>
    have hlt : v < 2 ^ j :=
      calc v < 2 ^ (8 * n) := by rwa [Nat.pow_mul]
        _ ≤ 2 ^ j := Nat.pow_le_pow_right (by decide) hj
    rw [extendBytes_unsigned, BitVec.getLsbD_ofNat, Nat.testBit_lt_two_pow hlt, Bool.and_false, Bool.false_and]
  | true =>
    have htop : 8 * n - 1 < 8 * n := by omega
    have htop64 : 8 * n - 1 < 64 := by omega
    rw [extendBytes_signed, BitVec.getLsbD_signExtend, BitVec.getLsbD_signExtend, if_neg (Nat.not_lt.2 hj), if_pos htop,
      BitVec.msb_eq_getLsbD_last]
    simp only [h64, htop64, decide_true, Bool.true_and]

theorem extendBytes_byte (sg : Bool) {n v k : Nat} (hk : k < n) (hn : 8 * n ≤ 64) :
    (extendBytes sg n v).extractLsb' (8 * k) 8 = BitVec.ofNat 8 (v / 256 ^ k) := by
  apply BitVec.eq_of_getLsbD_eq
  intro j hj
  rw [BitVec.getLsbD_extractLsb', extendBytes_getLsbD_low sg (by omega) hn, BitVec.getLsbD_ofNat,
    show 256 ^ k = 2 ^ (8 * k) by rw [Nat.pow_mul], ← Nat.shiftRight_eq_div_pow, Nat.testBit_shiftRight]

theorem intWidth_bounds {n : Nat} (h : IntWidth n) : 0 < n ∧ 8 * n ≤ 64 := by
  rcases h with rfl | rfl | rfl | rfl <;> decide

/-- The byte a RAM read of `n` bytes has at place `k` of the byte order. -/
theorem orderBytes_readBytes_getElem? (s : State) (e : Endian) (a : Nat) {n k : Nat} (hk : k < n) :
    (orderBytes e (s.mem.readBytes a n))[k]? = some (s.byteAt (a + e.position n k)) := by
  rw [orderBytes_getElem? e _ (by simpa using hk), Memory.readBytes_length,
    Memory.readBytes_getElem? _ _ _ _ (e.position_lt hk)]
  rfl

/-- The address of the `k`-th least significant byte of an access of `n` bytes at `a`. -/
def Endian.address (e : Endian) (a n k : Nat) : Nat :=
  match e with
  | .little => a + k
  | .big => a + n - 1 - k

theorem Endian.address_eq (e : Endian) (a : Nat) {n k : Nat} (hk : k < n) : e.address a n k = a + e.position n k := by
  cases e with
  | little => rfl
  | big => show a + n - 1 - k = a + (n - 1 - k); omega

/-- Byte `k` of an integer read from a RAM is the byte at its address in the byte order. -/
theorem extendBytes_readBytes_byte (s : State) (e : Endian) (sg : Bool) (a : Nat) {n k : Nat} (hk : k < n) (hn : 8 * n ≤ 64) :
    (extendBytes sg n (packLittle (orderBytes e (s.mem.readBytes a n)))).extractLsb' (8 * k) 8 =
      s.byteAt (e.address a n k) := by
  have hbyte := packLittle_byte (bs := orderBytes e (s.mem.readBytes a n)) (k := k) (by simpa using hk)
  rw [orderBytes_readBytes_getElem? s e a hk, ← e.address_eq a hk] at hbyte
  rw [extendBytes_byte sg hk hn]
  exact (Option.some.inj hbyte).symm

/-- Settles O54: the value is packed from the bytes read, in the byte order, and then extended. -/
theorem integerReadPacksBytes : Obligations.IntegerReadPacksBytes := by
  intro s a n e sg hr
  refine ⟨fun hn => ?_, fun hn => ?_⟩
  · obtain ⟨hpos, h64⟩ := intWidth_bounds hn
    have hlt : packLittle (orderBytes e (s.mem.readBytes a n)) < 256 ^ n := by
      simpa using packLittle_lt (orderBytes e (s.mem.readBytes a n))
    exact ⟨_, busReadInt_of_bytes hn e sg (busReadBytes_inRam hr),
      fun k hk => extendBytes_readBytes_byte s e sg a hk h64, fun j => extendBytes_getLsbD_high sg hpos hlt⟩
  · obtain ⟨size, loc, hres, -⟩ := hr
    exact busReadInt_badWidth hn e sg hres

/-! ## Integer writes to a RAM (R44, R48) -/

/-- A write in a RAM writes the value's low bytes in the byte order and changes nothing else. -/
theorem busWriteInt_inRam {s : State} {a n : Nat} (hn : IntWidth n) (e : Endian) (v : Word) (h : InRam s a n) :
    busWriteInt s a v n e = .ok { s with mem := s.mem.writeBytes a (orderBytes e (unpackLittle n v.toNat)) } := by
  rw [busWriteInt_eq hn]
  exact busWriteBytes_inRam (by simpa using h)

theorem Endian.position_position (e : Endian) {n k : Nat} (hk : k < n) : e.position n (e.position n k) = k := by
  cases e with
  | little => rfl
  | big => show n - 1 - (n - 1 - k) = k; omega

/-- After a write in canonical form the `k`-th least significant byte of the access is bits `8k+7:8k` of the value. -/
theorem read_writeBytes_address {m : Memory} (hm : Memory.wf m) (a : Nat) (e : Endian) (v : Word) {n k : Nat} (hk : k < n) :
    Memory.read (m.writeBytes a (orderBytes e (unpackLittle n v.toNat))) (e.address a n k) = v.extractLsb' (8 * k) 8 := by
  have hbyte : (orderBytes e (unpackLittle n v.toNat))[e.position n k]? = some (v.extractLsb' (8 * k) 8) := by
    rw [orderBytes_getElem? e _ (by simpa using e.position_lt hk), unpackLittle_length, e.position_position hk,
      unpackLittle_slice n k v hk]
  rw [e.address_eq a hk]
  simp only [Memory.read_writeBytes hm, Nat.le_add_right, if_true, Nat.add_sub_cancel_left, hbyte]

/-- Bytes outside the written range read as before. -/
theorem read_writeBytes_outside {m : Memory} (hm : Memory.wf m) {a b : Nat} {bs : List Byte}
    (hb : b < a ∨ a + bs.length ≤ b) : Memory.read (m.writeBytes a bs) b = Memory.read m b := by
  rw [Memory.read_writeBytes hm]
  split
  · rw [List.getElem?_eq_none (by omega)]
  · rfl

/-- Settles O55: the bytes written are the value's, in the byte order. -/
theorem integerWriteUnpacksBytes : Obligations.IntegerWriteUnpacksBytes := by
  intro s a n e v hm hr
  refine ⟨fun hn => ⟨_, busWriteInt_inRam hn e v hr, rfl, Memory.writeBytes_wf hm _ _, fun k hk => ?_, fun b hb => ?_⟩,
    fun hn => ?_⟩
  · exact read_writeBytes_address hm a e v hk
  · exact read_writeBytes_outside hm (by simpa using hb)
  · obtain ⟨size, loc, hres, -⟩ := hr
    exact busWriteInt_badWidth hn e v hres

/-! ## Reading back what was written (R45) -/

/-- Where a RAM is depends on the bus map alone. -/
theorem InRam.of_bus_eq {s t : State} {a n : Nat} (h : InRam s a n) (hb : t.bus = s.bus) : InRam t a n := by
  rwa [InRam, hb]

theorem busReadBytes_of_busWriteBytes {s t : State} {a : Nat} {bs : List Byte} (hm : Memory.wf s.mem)
    (h : InRam s a bs.length) (ht : busWriteBytes s a bs = .ok t) : busReadBytes t a bs.length = .ok (bs, t) := by
  rw [busWriteBytes_inRam h] at ht
  cases ht
  rw [busReadBytes_inRam (h.of_bus_eq (by rfl)), Memory.readBytes_writeBytes hm]

/-- Packing undoes unpacking in either byte order. -/
theorem busReadInt_of_busWriteInt {s t : State} {a n : Nat} {e : Endian} {v : Word} (hn : IntWidth n)
    (hm : Memory.wf s.mem) (h : InRam s a n) (ht : busWriteInt s a v n e = .ok t) :
    busReadInt t a n e false = .ok (BitVec.ofNat 64 (v.toNat % 2 ^ (8 * n)), t) := by
  rw [busWriteInt_eq hn] at ht
  have hread := busReadBytes_of_busWriteBytes hm (by simpa using h) ht
  rw [orderBytes_length, unpackLittle_length] at hread
  rw [busReadInt_of_bytes hn e false hread, orderBytes_orderBytes, packLittle_unpackLittle, extendBytes_unsigned,
    Nat.pow_mul]

/-- Settles O56: the write succeeds, and what it wrote is read back. -/
theorem storageReturnsWhatWasWritten : Obligations.StorageReturnsWhatWasWritten := by
  intro s a hm
  refine ⟨fun bs h => ?_, fun n e v hn h => ?_⟩
  · have ht := busWriteBytes_inRam h
    exact ⟨_, ht, busReadBytes_of_busWriteBytes hm h ht⟩
  · have ht := busWriteInt_inRam hn e v h
    exact ⟨_, ht, busReadInt_of_busWriteInt hn hm h ht⟩

/-! ## Accesses of different widths (R49) -/

/-- In a well-formed bus map, part of an access that lies in a RAM lies in it. -/
theorem InRam.part {s : State} {a n k m : Nat} (hw : busWf s.bus = true) (h : InRam s a n) (hm : 0 < m) (hk : k + m ≤ n) :
    InRam s (a + k) m := by
  obtain ⟨size, loc, hres, hfit⟩ := h
  exact ⟨size, loc + k, resolve_add hw hres (by show loc + k < size; omega), by omega⟩

/-- Part of the bytes of a value just written are the bytes of the value shifted down to there. -/
theorem readBytes_writeBytes_part {m : Memory} (hm : Memory.wf m) (a v : Nat) {n k l : Nat} (hk : k + l ≤ n) :
    Memory.readBytes (m.writeBytes a (unpackLittle n v)) (a + k) l = unpackLittle l (v / 256 ^ k) := by
  apply List.ext_getElem?
  intro j
  by_cases hj : j < l
  · rw [Memory.readBytes_getElem? _ _ _ _ hj, unpackLittle_getElem? _ _ _ hj, Memory.read_writeBytes hm,
      if_pos (by omega), show a + k + j - a = k + j by omega, unpackLittle_getElem? _ _ _ (by omega), Nat.div_div_eq_div_mul,
      ← Nat.pow_add]
  · rw [List.getElem?_eq_none (by simpa using hj), List.getElem?_eq_none (by simpa using hj)]

/-- After `MemWrite(A, 8, v)` a narrower `MemRead` inside the eight bytes gives the bits of `v` there. -/
theorem memRead_part_of_memWrite {s t : State} {A v : Word} (hm : Memory.wf s.mem) (hw : busWf s.bus = true)
    (hr : InRam s A.toNat 8) (hA : A.toNat + 8 ≤ 2 ^ 64) (ht : memWrite s A 8 v = .ok t) {k n : Nat} (hn : IntWidth n)
    (hk : k + n ≤ 8) :
    memRead t (A + BitVec.ofNat 64 k) n = .ok ((v.extractLsb' (8 * k) (8 * n)).setWidth 64, t) := by
  obtain ⟨hpos, -⟩ := intWidth_bounds hn
  have haddr : (A + BitVec.ofNat 64 k).toNat = A.toNat + k := by
    rw [BitVec.toNat_add, BitVec.toNat_ofNat]
    omega
  have hpart : InRam t (A + BitVec.ofNat 64 k).toNat n := by
    obtain ⟨-, -, -, hbus, -, -⟩ := memWrite_frame ht
    exact haddr ▸ (hr.part hw hpos hk).of_bus_eq hbus
  rw [memRead_inRam hn hpart, haddr]
  rw [memWrite_inRam (by decide) hr] at ht
  cases ht
  rw [readBytes_writeBytes_part hm _ _ hk, packLittle_unpackLittle]
  congr 2
  apply BitVec.eq_of_toNat_eq
  simp [Nat.shiftRight_eq_div_pow, Nat.pow_mul]

/-- Settles O57: each narrower read is a part of the eight bytes written. -/
theorem mixedWidthAccess : Obligations.MixedWidthAccess := by
  intro s A v hm hw hr hA
  have ht := memWrite_inRam (v := v) (n := 8) (by decide) hr
  exact ⟨_, ht, fun k hk => memRead_part_of_memWrite hm hw hr hA ht (.inl rfl) hk,
    memRead_part_of_memWrite hm hw hr hA ht (k := 2) (n := 2) (by decide) (by decide),
    memRead_part_of_memWrite hm hw hr hA ht (k := 4) (n := 4) (by decide) (by decide)⟩

/-! ## Loads from an external device (R55) -/

theorem sextBytes_eight (v : Word) : sextBytes 8 v = v := by
  show (v.setWidth 64).signExtend 64 = v
  rw [BitVec.setWidth_eq, BitVec.signExtend_eq]

/-- LD takes the loaded value as it is (R164). -/
theorem exec_ld (rd rs1 : XReg) (imm : Word) (s : State) :
    exec (.ld rd rs1 imm) s = load 8 (fun u => u) rd (s.readX rs1 + imm) s := by
  rw [← funext sextBytes_eight]
  rfl

/-- Settles O58: each load is the shared shape at its width, and the device's answer decides its outcome. -/
theorem externalLoadAccessesOnce : Obligations.ExternalLoadAccessesOnce := by
  intro s rd rs1 imm size id loc h
  exact ⟨loadsFromDevice_load (by decide) rfl h, loadsFromDevice_load (by decide) rfl h,
    loadsFromDevice_load (by decide) rfl h, loadsFromDevice_load (by decide) (exec_ld rd rs1 imm s) h,
    loadsFromDevice_load (by decide) rfl h, loadsFromDevice_load (by decide) rfl h,
    loadsFromDevice_load (by decide) rfl h, externalRead_error_iff s size id loc⟩

end Sys2Proof.Machine

/-! SUPPORT. The decoder and the encoder of spec 30_encoding.md: the two round trips (R65 to R100), the agreement with the rows
of opcode_table.json, and the decode faults (R101). -/

namespace Sys2Proof

open Laws

/-! ## The fields of a word put together again (R65 to R82) -/

/-- A field of a sign-extended value that lies inside the value is that field of the value. -/
theorem extractLsb'_signExtend {n m lo len : Nat} (x : BitVec n) (h : lo + len ≤ n) (hm : n ≤ m) :
    (x.signExtend m).extractLsb' lo len = x.extractLsb' lo len := by
  ext j hj
  have hn : lo + j < n := by omega
  have hm' : lo + j < m := by omega
  simp only [BitVec.getElem_extractLsb', BitVec.getLsbD_signExtend, hn, hm', decide_true, Bool.true_and, if_true]

theorem ofBool_getLsbD {n : Nat} (x : BitVec n) (k : Nat) : BitVec.ofBool (x.getLsbD k) = x.extractLsb' k 1 := by
  ext j hj
  obtain rfl : j = 0 := by omega
  simp

section Fields

variable {w : InstrWord}

theorem funct7Of_eq_append : funct7Of w = func5Of w ++ fmtOf w :=
  (fields_join (lo := 25) (l1 := 5) (l2 := 2) w).symm

theorem imm12Of_eq_append : imm12Of w = funct7Of w ++ rs2Of w :=
  (fields_join (lo := 20) (l1 := 7) (l2 := 5) w).symm

theorem func5Of_eq : func5Of w = (funct7Of w).extractLsb' 2 5 := by
  rw [funct7Of_eq_append, BitVec.extractLsb'_append_eq_left]

theorem fmtOf_eq : fmtOf w = (funct7Of w).extractLsb' 0 2 := by
  rw [funct7Of_eq_append, BitVec.extractLsb'_append_eq_right]

theorem funct7Of_eq : funct7Of w = (imm12Of w).extractLsb' 5 7 := by
  rw [imm12Of_eq_append, BitVec.extractLsb'_append_eq_left]

theorem rs2Of_eq : rs2Of w = (imm12Of w).extractLsb' 0 5 := by
  rw [imm12Of_eq_append, BitVec.extractLsb'_append_eq_right]

/-! The fields of a decoded immediate are the fields of the word it was decoded from (R74 to R78). -/

theorem immI_slice : (immI w).extractLsb' 0 12 = imm12Of w := by
  rw [immI, extractLsb'_signExtend _ (by decide) (by decide), BitVec.extractLsb'_eq_self]

theorem immS_high : (immS w).extractLsb' 5 7 = funct7Of w := by
  rw [immS, extractLsb'_signExtend _ (by decide) (by decide), BitVec.extractLsb'_append_eq_left]

theorem immS_low : (immS w).extractLsb' 0 5 = rdOf w := by
  rw [immS, extractLsb'_signExtend _ (by decide) (by decide), BitVec.extractLsb'_append_eq_right]

theorem immB_pieces :
    (immB w).extractLsb' 12 1 = w.extractLsb' 31 1 ∧ (immB w).extractLsb' 11 1 = w.extractLsb' 7 1 ∧
      (immB w).extractLsb' 5 6 = w.extractLsb' 25 6 ∧ (immB w).extractLsb' 1 4 = w.extractLsb' 8 4 := by
  refine ⟨?_, ?_, ?_, ?_⟩ <;> rw [immB, extractLsb'_signExtend _ (by decide) (by decide)] <;>
    simp (disch := decide) only [BitVec.extractLsb'_append_eq_of_add_le, BitVec.extractLsb'_append_eq_of_le,
      BitVec.extractLsb'_eq_self, Nat.reduceSub]

theorem immU_slice : (immU w).extractLsb' 12 20 = w.extractLsb' 12 20 := by
  rw [immU, extractLsb'_signExtend _ (by decide) (by decide), BitVec.extractLsb'_append_eq_left]

theorem immJ_pieces :
    (immJ w).extractLsb' 20 1 = w.extractLsb' 31 1 ∧ (immJ w).extractLsb' 12 8 = w.extractLsb' 12 8 ∧
      (immJ w).extractLsb' 11 1 = w.extractLsb' 20 1 ∧ (immJ w).extractLsb' 1 10 = w.extractLsb' 21 10 := by
  refine ⟨?_, ?_, ?_, ?_⟩ <;> rw [immJ, extractLsb'_signExtend _ (by decide) (by decide)] <;>
    simp (disch := decide) only [BitVec.extractLsb'_append_eq_of_add_le, BitVec.extractLsb'_append_eq_of_le,
      BitVec.extractLsb'_eq_self, Nat.reduceSub]

/-! Each layout, filled with the fields of a word, spells the word. -/

theorem encR_of_fields {f7 : BitVec 7} {rs2 rs1 : BitVec 5} {f3 : BitVec 3} {rd : BitVec 5} {op : BitVec 7}
    (h7 : funct7Of w = f7) (h2 : rs2Of w = rs2) (h1 : rs1Of w = rs1) (h3 : funct3Of w = f3) (hd : rdOf w = rd)
    (hop : opcodeOf w = op) : encR f7 rs2 rs1 f3 rd op = w := by
  subst h7 h2 h1 h3 hd hop
  simp (disch := decide) only [encR, funct7Of, rs2Of, rs1Of, funct3Of, rdOf, opcodeOf,
    BitVec.extractLsb'_append_extractLsb'_eq_extractLsb']
  exact BitVec.extractLsb'_eq_self

variable {f3 : BitVec 3} {op : BitVec 7}

theorem encI_of_fields (h3 : funct3Of w = f3) (hop : opcodeOf w = op) :
    encI (immI w) (rs1Of w) f3 (rdOf w) op = w := by
  subst h3 hop
  simp (disch := decide) only [encI, immI_slice, imm12Of, rs1Of, funct3Of, rdOf, opcodeOf,
    BitVec.extractLsb'_append_extractLsb'_eq_extractLsb']
  exact BitVec.extractLsb'_eq_self

theorem encShift6_of_fields {f6 : BitVec 6} (h6 : func6Of w = f6) (h3 : funct3Of w = f3) (hop : opcodeOf w = op) :
    encShift6 f6 (shamt6Of w) (rs1Of w) f3 (rdOf w) op = w := by
  subst h6 h3 hop
  simp (disch := decide) only [encShift6, func6Of, shamt6Of, rs1Of, funct3Of, rdOf, opcodeOf,
    BitVec.extractLsb'_append_extractLsb'_eq_extractLsb']
  exact BitVec.extractLsb'_eq_self

theorem encS_of_fields (h3 : funct3Of w = f3) (hop : opcodeOf w = op) :
    encS (immS w) (rs2Of w) (rs1Of w) f3 op = w :=
  encR_of_fields immS_high.symm rfl rfl h3 immS_low.symm hop

theorem encB_of_fields (h3 : funct3Of w = f3) (hop : opcodeOf w = op) :
    encB (immB w) (rs2Of w) (rs1Of w) f3 op = w := by
  obtain ⟨h12, h11, h5, h1⟩ := immB_pieces (w := w)
  refine encR_of_fields ?_ rfl rfl h3 ?_ hop
  · rw [h12, h5]
    exact (fields_join (lo := 25) (l1 := 1) (l2 := 6) w).symm
  · rw [h1, h11]
    exact (fields_join (lo := 7) (l1 := 4) (l2 := 1) w).symm

theorem encU_of_fields (hop : opcodeOf w = op) : encU (immU w) (rdOf w) op = w := by
  subst hop
  simp (disch := decide) only [encU, immU_slice, rdOf, opcodeOf, BitVec.extractLsb'_append_extractLsb'_eq_extractLsb']
  exact BitVec.extractLsb'_eq_self

theorem encJ_of_fields (hop : opcodeOf w = op) : encJ (immJ w) (rdOf w) op = w := by
  subst hop
  obtain ⟨h20, h12, h11, h1⟩ := immJ_pieces (w := w)
  simp (disch := decide) only [encJ, h20, h12, h11, h1, rdOf, opcodeOf,
    BitVec.extractLsb'_append_extractLsb'_eq_extractLsb']
  exact BitVec.extractLsb'_eq_self

theorem encAmo_of_fields {f5 rs2 : BitVec 5} (h5 : func5Of w = f5) (h2 : rs2Of w = rs2) (h3 : funct3Of w = f3)
    (hop : opcodeOf w = 0x2F#7) : encAmo f5 (aqOf w) (rlOf w) rs2 (rs1Of w) f3 (rdOf w) = w := by
  refine encR_of_fields ?_ h2 rfl h3 rfl hop
  simp (disch := decide) only [← h5, func5Of, aqOf, rlOf, ofBool_getLsbD,
    BitVec.extractLsb'_append_extractLsb'_eq_extractLsb']
  rfl

theorem encFence_of_fields (h3 : funct3Of w = 0b000#3) (hop : opcodeOf w = 0x0F#7) :
    encFence (w.extractLsb' 28 4) (w.extractLsb' 24 4) (w.extractLsb' 20 4) (rs1Of w) (rdOf w) = w := by
  rw [encFence, ← h3, ← hop]
  simp (disch := decide) only [rs1Of, funct3Of, rdOf, opcodeOf, BitVec.extractLsb'_append_extractLsb'_eq_extractLsb']
  exact BitVec.extractLsb'_eq_self

/-! ## What the decoder puts into an instruction is well-formed -/

theorem wfImm12_immI : wfImm12 (immI w) = true := by
  rw [wfImm12, beq_iff_eq, immI_slice, immI]

theorem wfImm12_immS : wfImm12 (immS w) = true := by
  rw [wfImm12, beq_iff_eq, immS, extractLsb'_signExtend _ (by decide) (by decide)]
  exact congrArg _ BitVec.extractLsb'_eq_self.symm

theorem wfImmB_immB : wfImmB (immB w) = true := by
  rw [wfImmB, beq_iff_eq, immB, extractLsb'_signExtend _ (by decide) (by decide),
    BitVec.extractLsb'_append_eq_of_le (by decide)]
  exact congrArg (fun v : BitVec 12 => (v ++ 0#1).signExtend 64) BitVec.extractLsb'_eq_self.symm

theorem wfImmU_immU : wfImmU (immU w) = true := by
  rw [wfImmU, beq_iff_eq, immU_slice, immU]

theorem wfImmJ_immJ : wfImmJ (immJ w) = true := by
  rw [wfImmJ, beq_iff_eq, immJ, extractLsb'_signExtend _ (by decide) (by decide),
    BitVec.extractLsb'_append_eq_of_le (by decide)]
  exact congrArg (fun v : BitVec 20 => (v ++ 0#1).signExtend 64) BitVec.extractLsb'_eq_self.symm

/-- A MISC-MEM word with funct3 000 that is not PAUSE's has not PAUSE's fields (R85). -/
theorem wfFence_of_ne_pause (h3 : funct3Of w = 0b000#3) (hop : opcodeOf w = 0x0F#7) (hw : w ≠ 0x0100000F#32) :
    wfFence (w.extractLsb' 28 4) (w.extractLsb' 24 4) (w.extractLsb' 20 4) (rs1X w) (rdX w) = true := by
  by_contra hf
  simp only [wfFence, Bool.not_eq_true, Bool.not_eq_false', Bool.and_eq_true, beq_iff_eq, rs1X, rdX] at hf
  obtain ⟨⟨⟨⟨hfm, hpred⟩, hsucc⟩, h1⟩, hd⟩ := hf
  have e := encFence_of_fields h3 hop
  rw [hfm, hpred, hsucc, h1, hd] at e
  exact hw e.symm

end Fields

theorem RoundingMode.wf_ofCode : ∀ c : BitVec 3, (RoundingMode.ofCode c).wf = true := by decide

theorem RoundingMode.code_ofCode : ∀ c : BitVec 3, (RoundingMode.ofCode c).code = c := by decide

/-- A well-formed rounding mode is the one its code spells; only the two reserved codes are invalid (R81). -/
theorem RoundingMode.ofCode_code {rm : RoundingMode} (h : rm.wf = true) : RoundingMode.ofCode rm.code = rm := by
  cases rm with
  | invalid c =>
    have hc : ∀ c : BitVec 3, (RoundingMode.invalid c).wf = true → RoundingMode.ofCode c = .invalid c := by decide
    exact hc c h
  | _ => rfl

/-! ## From a word to its instruction and back -/

/-- The word is the encoding of the instruction, which is well-formed. -/
structure Spells (w : InstrWord) (i : Instr) : Prop where
  wf : i.wf = true
  word : encode i = w

section Spelling

variable {w : InstrWord} {i : Instr}

theorem decodeLoad_spells (hop : opcodeOf w = 0x03#7) (h : decodeLoad w = some i) : Spells w i := by
  unfold decodeLoad at h
  split at h <;> cases h <;> exact ⟨wfImm12_immI, encI_of_fields ‹_› hop⟩

theorem decodeLoadFp_spells (hop : opcodeOf w = 0x07#7) (h : decodeLoadFp w = some i) : Spells w i := by
  unfold decodeLoadFp at h
  split at h <;> cases h <;> exact ⟨wfImm12_immI, encI_of_fields ‹_› hop⟩

theorem decodeMiscMem_spells (hop : opcodeOf w = 0x0F#7) (h : decodeMiscMem w = some i) : Spells w i := by
  unfold decodeMiscMem at h
  split at h
  next hw => cases h; exact ⟨rfl, hw.symm⟩
  next hw =>
    split at h
    next h3 => cases h; exact ⟨wfFence_of_ne_pause h3 hop hw, encFence_of_fields h3 hop⟩
    next h3 => cases h; exact ⟨wfImm12_immI, encI_of_fields h3 hop⟩
    next => cases h

theorem decodeOpImm_spells (hop : opcodeOf w = 0x13#7) (h : decodeOpImm w = some i) : Spells w i := by
  unfold decodeOpImm at h
  split at h
  case h_7 | h_8 => split at h <;> cases h <;> exact ⟨rfl, encShift6_of_fields ‹_› ‹_› hop⟩
  all_goals cases h; exact ⟨wfImm12_immI, encI_of_fields ‹_› hop⟩

theorem decodeOpImm32_spells (hop : opcodeOf w = 0x1B#7) (h : decodeOpImm32 w = some i) : Spells w i := by
  unfold decodeOpImm32 at h
  split at h
  case h_1 => cases h; exact ⟨wfImm12_immI, encI_of_fields ‹_› hop⟩
  case h_2 | h_3 => split at h <;> cases h <;> exact ⟨rfl, encR_of_fields ‹_› rfl rfl ‹_› rfl hop⟩
  case h_4 => cases h

theorem decodeStore_spells (hop : opcodeOf w = 0x23#7) (h : decodeStore w = some i) : Spells w i := by
  unfold decodeStore at h
  split at h <;> cases h <;> exact ⟨wfImm12_immS, encS_of_fields ‹_› hop⟩

theorem decodeStoreFp_spells (hop : opcodeOf w = 0x27#7) (h : decodeStoreFp w = some i) : Spells w i := by
  unfold decodeStoreFp at h
  split at h <;> cases h <;> exact ⟨wfImm12_immS, encS_of_fields ‹_› hop⟩

theorem decodeAmoWord_spells (h3 : funct3Of w = 0b010#3) (hop : opcodeOf w = 0x2F#7) (h : decodeAmoWord w = some i) :
    Spells w i := by
  unfold decodeAmoWord at h
  split at h
  case h_1 => split at h <;> cases h; exact ⟨rfl, encAmo_of_fields ‹_› ‹_› h3 hop⟩
  case h_12 => cases h
  all_goals cases h; exact ⟨rfl, encAmo_of_fields ‹_› rfl h3 hop⟩

theorem decodeAmoDoubleword_spells (h3 : funct3Of w = 0b011#3) (hop : opcodeOf w = 0x2F#7)
    (h : decodeAmoDoubleword w = some i) : Spells w i := by
  unfold decodeAmoDoubleword at h
  split at h
  case h_1 => split at h <;> cases h; exact ⟨rfl, encAmo_of_fields ‹_› ‹_› h3 hop⟩
  case h_12 => cases h
  all_goals cases h; exact ⟨rfl, encAmo_of_fields ‹_› rfl h3 hop⟩

theorem decodeAmo_spells (hop : opcodeOf w = 0x2F#7) (h : decodeAmo w = some i) : Spells w i := by
  unfold decodeAmo at h
  split at h
  next h3 => exact decodeAmoWord_spells h3 hop h
  next h3 => exact decodeAmoDoubleword_spells h3 hop h
  next => cases h

theorem decodeOp_spells (hop : opcodeOf w = 0x33#7) (h : decodeOp w = some i) : Spells w i := by
  unfold decodeOp at h
  split at h
  case h_4 => cases h
  all_goals split at h <;> cases h <;> exact ⟨rfl, encR_of_fields ‹_› rfl rfl ‹_› rfl hop⟩

theorem decodeOp32_spells (hop : opcodeOf w = 0x3B#7) (h : decodeOp32 w = some i) : Spells w i := by
  unfold decodeOp32 at h
  split at h
  case h_4 => cases h
  all_goals split at h <;> cases h <;> exact ⟨rfl, encR_of_fields ‹_› rfl rfl ‹_› rfl hop⟩

/-- The funct3 field holds the code of the decoded rounding mode, reserved or not (R81, R106). -/
theorem funct3Of_eq_code : funct3Of w = (rmOf w).code := (RoundingMode.code_ofCode _).symm

theorem rmOf_wf : (rmOf w).wf = true := RoundingMode.wf_ofCode _

/-- The R4 layout with the word's registers and rounding mode (R67). -/
theorem encR4_of_fields {fmt : BitVec 2} {op : BitVec 7} (hf : fmtOf w = fmt) (hop : opcodeOf w = op) :
    encR4 (rs3F w).idx fmt (rs2F w).idx (rs1F w).idx (rmOf w).code (rdF w).idx op = w :=
  encR_of_fields (hf ▸ funct7Of_eq_append) rfl rfl funct3Of_eq_code rfl hop

theorem decodeMadd_spells (hop : opcodeOf w = 0x43#7) (h : decodeMadd w = some i) : Spells w i := by
  unfold decodeMadd at h
  split at h <;> cases h <;> exact ⟨rmOf_wf, encR4_of_fields ‹_› hop⟩

theorem decodeMsub_spells (hop : opcodeOf w = 0x47#7) (h : decodeMsub w = some i) : Spells w i := by
  unfold decodeMsub at h
  split at h <;> cases h <;> exact ⟨rmOf_wf, encR4_of_fields ‹_› hop⟩

theorem decodeNmsub_spells (hop : opcodeOf w = 0x4B#7) (h : decodeNmsub w = some i) : Spells w i := by
  unfold decodeNmsub at h
  split at h <;> cases h <;> exact ⟨rmOf_wf, encR4_of_fields ‹_› hop⟩

theorem decodeNmadd_spells (hop : opcodeOf w = 0x4F#7) (h : decodeNmadd w = some i) : Spells w i := by
  unfold decodeNmadd at h
  split at h <;> cases h <;> exact ⟨rmOf_wf, encR4_of_fields ‹_› hop⟩

theorem funct7Of_of_func5_fmt {f5 : BitVec 5} {fmt : BitVec 2} (h5 : func5Of w = f5) (hf : fmtOf w = fmt) :
    funct7Of w = f5 ++ fmt := h5 ▸ hf ▸ funct7Of_eq_append

/-- Arithmetic; square root and FCVT between the formats; the rows told apart by funct3; the other FCVTs; and the moves with
FCLASS. -/
theorem decodeOpFpSingle_spells (hf : fmtOf w = 0b00#2) (hop : opcodeOf w = 0x53#7) (h : decodeOpFpSingle w = some i) :
    Spells w i := by
  unfold decodeOpFpSingle at h
  split at h
  case h_1 h5 | h_2 h5 | h_3 h5 | h_4 h5 =>
    cases h
    exact ⟨rmOf_wf, encR_of_fields (funct7Of_of_func5_fmt h5 hf) rfl rfl funct3Of_eq_code rfl hop⟩
  case h_5 h5 | h_8 h5 | h_10 h5 | h_11 h5 =>
    split at h <;> cases h <;>
      exact ⟨rmOf_wf, encR_of_fields (funct7Of_of_func5_fmt h5 hf) ‹_› rfl funct3Of_eq_code rfl hop⟩
  case h_6 h5 | h_7 h5 | h_9 h5 =>
    split at h <;> cases h <;> exact ⟨rfl, encR_of_fields (funct7Of_of_func5_fmt h5 hf) rfl rfl ‹_› rfl hop⟩
  case h_12 h5 | h_13 h5 =>
    split at h
    next h2 =>
      split at h <;> cases h <;> exact ⟨rfl, encR_of_fields (funct7Of_of_func5_fmt h5 hf) h2 rfl ‹_› rfl hop⟩
    next => cases h
  case h_14 => cases h

/-- The same groups as in the single format. -/
theorem decodeOpFpDouble_spells (hf : fmtOf w = 0b01#2) (hop : opcodeOf w = 0x53#7) (h : decodeOpFpDouble w = some i) :
    Spells w i := by
  unfold decodeOpFpDouble at h
  split at h
  case h_1 h5 | h_2 h5 | h_3 h5 | h_4 h5 =>
    cases h
    exact ⟨rmOf_wf, encR_of_fields (funct7Of_of_func5_fmt h5 hf) rfl rfl funct3Of_eq_code rfl hop⟩
  case h_5 h5 | h_8 h5 | h_10 h5 | h_11 h5 =>
    split at h <;> cases h <;>
      exact ⟨rmOf_wf, encR_of_fields (funct7Of_of_func5_fmt h5 hf) ‹_› rfl funct3Of_eq_code rfl hop⟩
  case h_6 h5 | h_7 h5 | h_9 h5 =>
    split at h <;> cases h <;> exact ⟨rfl, encR_of_fields (funct7Of_of_func5_fmt h5 hf) rfl rfl ‹_› rfl hop⟩
  case h_12 h5 | h_13 h5 =>
    split at h
    next h2 =>
      split at h <;> cases h <;> exact ⟨rfl, encR_of_fields (funct7Of_of_func5_fmt h5 hf) h2 rfl ‹_› rfl hop⟩
    next => cases h
  case h_14 => cases h

theorem decodeOpFp_spells (hop : opcodeOf w = 0x53#7) (h : decodeOpFp w = some i) : Spells w i := by
  unfold decodeOpFp at h
  split at h
  next hf => exact decodeOpFpSingle_spells hf hop h
  next hf => exact decodeOpFpDouble_spells hf hop h
  next => cases h

theorem decodeBranch_spells (hop : opcodeOf w = 0x63#7) (h : decodeBranch w = some i) : Spells w i := by
  unfold decodeBranch at h
  split at h <;> cases h <;> exact ⟨wfImmB_immB, encB_of_fields ‹_› hop⟩

theorem decodeJalr_spells (hop : opcodeOf w = 0x67#7) (h : decodeJalr w = some i) : Spells w i := by
  unfold decodeJalr at h
  split at h <;> cases h
  exact ⟨wfImm12_immI, encI_of_fields ‹_› hop⟩

theorem decodeSystem_spells (h : decodeSystem w = some i) : Spells w i := by
  unfold decodeSystem at h
  split at h
  next hw => cases h; exact ⟨rfl, hw.symm⟩
  next =>
    split at h
    next hw => cases h; exact ⟨rfl, hw.symm⟩
    next => cases h

/-- A word that decodes is spelled by its instruction, whichever sub-dispatch selected it (R63). -/
theorem decode_spells (h : decode w = .ok i) : Spells w i := by
  have hs := subDispatch_of_decode h
  unfold subDispatch at hs
  split at hs
  case h_1 hop => exact decodeLoad_spells hop hs
  case h_2 hop => exact decodeLoadFp_spells hop hs
  case h_3 hop => exact decodeMiscMem_spells hop hs
  case h_4 hop => exact decodeOpImm_spells hop hs
  case h_5 hop => cases hs; exact ⟨wfImmU_immU, encU_of_fields hop⟩
  case h_6 hop => exact decodeOpImm32_spells hop hs
  case h_7 hop => exact decodeStore_spells hop hs
  case h_8 hop => exact decodeStoreFp_spells hop hs
  case h_9 hop => exact decodeAmo_spells hop hs
  case h_10 hop => exact decodeOp_spells hop hs
  case h_11 hop => cases hs; exact ⟨wfImmU_immU, encU_of_fields hop⟩
  case h_12 hop => exact decodeOp32_spells hop hs
  case h_13 hop => exact decodeMadd_spells hop hs
  case h_14 hop => exact decodeMsub_spells hop hs
  case h_15 hop => exact decodeNmsub_spells hop hs
  case h_16 hop => exact decodeNmadd_spells hop hs
  case h_17 hop => exact decodeOpFp_spells hop hs
  case h_18 hop => exact decodeBranch_spells hop hs
  case h_19 hop => exact decodeJalr_spells hop hs
  case h_20 hop => cases hs; exact ⟨wfImmJ_immJ, encJ_of_fields hop⟩
  case h_21 => exact decodeSystem_spells hs
  case h_22 => cases hs

end Spelling

/-- Settles O2: by the sub-dispatch that selected the instruction, whose layout holds the fields it was decoded from. -/
theorem encodeDecodeRoundTrip : Obligations.EncodeDecodeRoundTrip :=
  fun _ _ h => ⟨(decode_spells h).wf, (decode_spells h).word⟩

/-! ## From an instruction to its word and back -/

section Layouts

variable {imm : Word} {rs2 rs1 rd : BitVec 5} {f3 : BitVec 3} {op : BitVec 7}

theorem immI_encI (h : wfImm12 imm = true) : immI (encI imm rs1 f3 rd op) = imm := by
  rw [encI_imm, ← eq_of_beq h]

theorem immS_encS (h : wfImm12 imm = true) : immS (encS imm rs2 rs1 f3 op) = imm := by
  rw [encS_imm, ← eq_of_beq h]

theorem immB_encB (h : wfImmB imm = true) : immB (encB imm rs2 rs1 f3 op) = imm := by
  rw [encB_imm, ← eq_of_beq h]

theorem immU_encU (h : wfImmU imm = true) : immU (encU imm rd op) = imm := by
  rw [encU_imm, ← eq_of_beq h]

theorem immJ_encJ (h : wfImmJ imm = true) : immJ (encJ imm rd op) = imm := by
  rw [encJ_imm, ← eq_of_beq h]

@[simp] theorem encS_opcode : opcodeOf (encS imm rs2 rs1 f3 op) = op := encR_opcode ..
@[simp] theorem encS_funct3 : funct3Of (encS imm rs2 rs1 f3 op) = f3 := encR_funct3 ..
@[simp] theorem encS_rs1 : rs1Of (encS imm rs2 rs1 f3 op) = rs1 := encR_rs1 ..
@[simp] theorem encS_rs2 : rs2Of (encS imm rs2 rs1 f3 op) = rs2 := encR_rs2 ..

@[simp] theorem encB_opcode : opcodeOf (encB imm rs2 rs1 f3 op) = op := encR_opcode ..
@[simp] theorem encB_funct3 : funct3Of (encB imm rs2 rs1 f3 op) = f3 := encR_funct3 ..
@[simp] theorem encB_rs1 : rs1Of (encB imm rs2 rs1 f3 op) = rs1 := encR_rs1 ..
@[simp] theorem encB_rs2 : rs2Of (encB imm rs2 rs1 f3 op) = rs2 := encR_rs2 ..

/-- The rs3 of the R4 layout, where func5 stands (R67). -/
theorem r4_func5 (r : BitVec 5) (f : BitVec 2) : (r ++ f).extractLsb' 2 5 = r := BitVec.extractLsb'_append_eq_left

end Layouts

/-- The FENCE of other fields than PAUSE's has another word (R85). -/
theorem encFence_ne_pause {fm pred succ : BitVec 4} {rs1 rd : XReg} (h : wfFence fm pred succ rs1 rd = true) :
    encFence fm pred succ rs1.idx rd.idx ≠ 0x0100000F#32 := by
  intro e
  have hfm := encFence_fm rs1.idx rd.idx fm pred succ
  have hpred := encFence_pred rs1.idx rd.idx fm pred succ
  have hsucc := encFence_succ rs1.idx rd.idx fm pred succ
  have hrs1 := encFence_rs1 rs1.idx rd.idx fm pred succ
  have hrd := encFence_rd rs1.idx rd.idx fm pred succ
  rw [e] at hfm hpred hsucc hrs1 hrd
  rw [wfFence, ← hfm, ← hpred, ← hsucc, ← hrs1, ← hrd] at h
  exact absurd h (by decide)

section MiscMem

variable {w : InstrWord}

theorem decodeMiscMem_fence (hw : w ≠ 0x0100000F#32) (h3 : funct3Of w = 0b000#3) : decodeMiscMem w =
    some (.fence (w.extractLsb' 28 4) (w.extractLsb' 24 4) (w.extractLsb' 20 4) (rs1X w) (rdX w)) := by
  simp only [decodeMiscMem, if_neg hw, h3]

theorem decodeMiscMem_fenceI (h3 : funct3Of w = 0b001#3) :
    decodeMiscMem w = some (.fenceI (rdX w) (rs1X w) (immI w)) := by
  have hw : w ≠ 0x0100000F#32 := by
    rintro rfl
    exact absurd h3 (by decide)
  simp only [decodeMiscMem, if_neg hw, h3]

theorem decodeMiscMem_none (h0 : funct3Of w ≠ 0b000#3) (h1 : funct3Of w ≠ 0b001#3) : decodeMiscMem w = none := by
  have hw : w ≠ 0x0100000F#32 := by
    rintro rfl
    exact absurd rfl h0
  rw [decodeMiscMem, if_neg hw]
  split
  next h3 => exact absurd h3 h0
  next h3 => exact absurd h3 h1
  next => rfl

end MiscMem

/-- Opcode by opcode: the sub-dispatch finds the fixed fields of the layout, and each operand stands where it is read. -/
theorem decode_encode (i : Instr) (h : i.wf = true) : decode (encode i) = .ok i := by
  cases i with
  | lui => simp [encode, decode_lui, immU_encU h, rdX]
  | auipc => simp [encode, decode_auipc, immU_encU h, rdX]
  | jal => simp [encode, decode_jal, immJ_encJ h, rdX]
  | jalr => simp [encode, decode_jalr, decodeJalr, immI_encI h, rdX, rs1X]
  | beq | bne | blt | bge | bltu | bgeu => simp [encode, decode_branch, decodeBranch, immB_encB h, rs1X, rs2X]
  | lb | lh | lw | ld | lbu | lhu | lwu => simp [encode, decode_load, decodeLoad, immI_encI h, rdX, rs1X]
  | sb | sh | sw | sd => simp [encode, decode_store, decodeStore, immS_encS h, rs1X, rs2X]
  | addi | slti | sltiu | xori | ori | andi => simp [encode, decode_opImm, decodeOpImm, immI_encI h, rdX, rs1X]
  | slli | srli | srai => simp [encode, decode_opImm, decodeOpImm, rdX, rs1X]
  | addiw => simp [encode, decode_opImm32, decodeOpImm32, immI_encI h, rdX, rs1X]
  | slliw | srliw | sraiw => simp [encode, decode_opImm32, decodeOpImm32, rdX, rs1X]
  | add | sub | sll | slt | sltu | xor | srl | sra | or | and | mul | mulh | mulhsu | mulhu | div | divu | rem | remu =>
    simp [encode, decode_op, decodeOp, rdX, rs1X, rs2X]
  | addw | subw | sllw | srlw | sraw | mulw | divw | divuw | remw | remuw =>
    simp [encode, decode_op32, decodeOp32, rdX, rs1X, rs2X]
  | pause | ecall | ebreak => rfl
  | fence => simp [encode, decode_miscMem, decodeMiscMem_fence (encFence_ne_pause h), rdX, rs1X]
  | fenceI => simp [encode, decode_miscMem, decodeMiscMem_fenceI, immI_encI h, rdX, rs1X]
  | lrW | scW | amoswapW | amoaddW | amoxorW | amoandW | amoorW | amominW | amomaxW | amominuW | amomaxuW =>
    simp [encode, encAmo, decode_amo, decodeAmo, decodeAmoWord, EncodeFitsRow.amo_func5, rdX, rs1X, rs2X]
  | lrD | scD | amoswapD | amoaddD | amoxorD | amoandD | amoorD | amominD | amomaxD | amominuD | amomaxuD =>
    simp [encode, encAmo, decode_amo, decodeAmo, decodeAmoDoubleword, EncodeFitsRow.amo_func5, rdX, rs1X, rs2X]
  | flw | fld => simp [encode, decode_loadFp, decodeLoadFp, immI_encI h, rdF, rs1X]
  | fsw | fsd => simp [encode, decode_storeFp, decodeStoreFp, immS_encS h, rs1X, rs2F]
  | fmaddS | fmaddD =>
    simp [encode, encR4, decode_madd, decodeMadd, EncodeFitsRow.r4_fmt, r4_func5, RoundingMode.ofCode_code h, rdF, rs1F,
      rs2F, rs3F, rmOf]
  | fmsubS | fmsubD =>
    simp [encode, encR4, decode_msub, decodeMsub, EncodeFitsRow.r4_fmt, r4_func5, RoundingMode.ofCode_code h, rdF, rs1F,
      rs2F, rs3F, rmOf]
  | fnmsubS | fnmsubD =>
    simp [encode, encR4, decode_nmsub, decodeNmsub, EncodeFitsRow.r4_fmt, r4_func5, RoundingMode.ofCode_code h, rdF, rs1F,
      rs2F, rs3F, rmOf]
  | fnmaddS | fnmaddD =>
    simp [encode, encR4, decode_nmadd, decodeNmadd, EncodeFitsRow.r4_fmt, r4_func5, RoundingMode.ofCode_code h, rdF, rs1F,
      rs2F, rs3F, rmOf]
  | faddS | fsubS | fmulS | fdivS | fsqrtS | fcvtSD | fcvtWS | fcvtWuS | fcvtLS | fcvtLuS | fcvtSW | fcvtSWu | fcvtSL
  | fcvtSLu =>
    simp [encode, decode_opFp, decodeOpFp, decodeOpFpSingle, RoundingMode.ofCode_code h, rdX, rdF, rs1X, rs1F, rs2F, rmOf]
  | faddD | fsubD | fmulD | fdivD | fsqrtD | fcvtDS | fcvtWD | fcvtWuD | fcvtLD | fcvtLuD | fcvtDW | fcvtDWu | fcvtDL
  | fcvtDLu =>
    simp [encode, decode_opFp, decodeOpFp, decodeOpFpDouble, RoundingMode.ofCode_code h, rdX, rdF, rs1X, rs1F, rs2F, rmOf]
  | fsgnjS | fsgnjnS | fsgnjxS | fminS | fmaxS | feqS | fltS | fleS | fclassS | fmvXW | fmvWX =>
    simp [encode, decode_opFp, decodeOpFp, decodeOpFpSingle, rdX, rdF, rs1X, rs1F, rs2F]
  | fsgnjD | fsgnjnD | fsgnjxD | fminD | fmaxD | feqD | fltD | fleD | fclassD | fmvXD | fmvDX =>
    simp [encode, decode_opFp, decodeOpFp, decodeOpFpDouble, rdX, rdF, rs1X, rs1F, rs2F]

/-- Settles O1: the fields of each layout are the operands, and a well-formed operand is the one its field spells. -/
theorem decodeEncodeRoundTrip : Obligations.DecodeEncodeRoundTrip := decode_encode

/-! ## The rows of opcode_table.json -/

open Laws.EncodeFitsRow in
/-- Every instruction's word fits the instruction's row. -/
theorem encode_fits_row (i : Instr) : EncodeFitsRow.Statement i := by
  cases i
  exacts [lui _ _, auipc _ _, jal _ _, jalr _ _ _, beq _ _ _, bne _ _ _, blt _ _ _, bge _ _ _, bltu _ _ _,
    bgeu _ _ _, lb _ _ _, lh _ _ _, lw _ _ _, ld _ _ _, lbu _ _ _, lhu _ _ _, lwu _ _ _, sb _ _ _, sh _ _ _,
    sw _ _ _, sd _ _ _, addi _ _ _, slti _ _ _, sltiu _ _ _, xori _ _ _, ori _ _ _, andi _ _ _, slli _ _ _,
    srli _ _ _, srai _ _ _, add _ _ _, sub _ _ _, sll _ _ _, slt _ _ _, sltu _ _ _, xor _ _ _, srl _ _ _, sra _ _ _,
    or _ _ _, and _ _ _, addiw _ _ _, slliw _ _ _, srliw _ _ _, sraiw _ _ _, addw _ _ _, subw _ _ _, sllw _ _ _,
    srlw _ _ _, sraw _ _ _, pause, fence _ _ _ _ _, fenceI _ _ _, ecall, ebreak, mul _ _ _, mulh _ _ _, mulhsu _ _ _,
    mulhu _ _ _, div _ _ _, divu _ _ _, rem _ _ _, remu _ _ _, mulw _ _ _, divw _ _ _, divuw _ _ _, remw _ _ _,
    remuw _ _ _, lrW _ _ _ _, scW _ _ _ _ _, amoswapW _ _ _ _ _, amoaddW _ _ _ _ _, amoxorW _ _ _ _ _,
    amoandW _ _ _ _ _, amoorW _ _ _ _ _, amominW _ _ _ _ _, amomaxW _ _ _ _ _, amominuW _ _ _ _ _,
    amomaxuW _ _ _ _ _, lrD _ _ _ _, scD _ _ _ _ _, amoswapD _ _ _ _ _, amoaddD _ _ _ _ _, amoxorD _ _ _ _ _,
    amoandD _ _ _ _ _, amoorD _ _ _ _ _, amominD _ _ _ _ _, amomaxD _ _ _ _ _, amominuD _ _ _ _ _,
    amomaxuD _ _ _ _ _, flw _ _ _, fsw _ _ _, fmaddS _ _ _ _ _, fmsubS _ _ _ _ _, fnmsubS _ _ _ _ _,
    fnmaddS _ _ _ _ _, faddS _ _ _ _, fsubS _ _ _ _, fmulS _ _ _ _, fdivS _ _ _ _, fsqrtS _ _ _, fsgnjS _ _ _,
    fsgnjnS _ _ _, fsgnjxS _ _ _, fminS _ _ _, fmaxS _ _ _, fcvtSD _ _ _, feqS _ _ _, fltS _ _ _, fleS _ _ _,
    fclassS _ _, fcvtWS _ _ _, fcvtWuS _ _ _, fcvtLS _ _ _, fcvtLuS _ _ _, fcvtSW _ _ _, fcvtSWu _ _ _, fcvtSL _ _ _,
    fcvtSLu _ _ _, fmvXW _ _, fmvWX _ _, fld _ _ _, fsd _ _ _, fmaddD _ _ _ _ _, fmsubD _ _ _ _ _, fnmsubD _ _ _ _ _,
    fnmaddD _ _ _ _ _, faddD _ _ _ _, fsubD _ _ _ _, fmulD _ _ _ _, fdivD _ _ _ _, fsqrtD _ _ _, fsgnjD _ _ _,
    fsgnjnD _ _ _, fsgnjxD _ _ _, fminD _ _ _, fmaxD _ _ _, fcvtDS _ _ _, feqD _ _ _, fltD _ _ _, fleD _ _ _,
    fclassD _ _, fcvtWD _ _ _, fcvtWuD _ _ _, fcvtLD _ _ _, fcvtLuD _ _ _, fcvtDW _ _ _, fcvtDWu _ _ _, fcvtDL _ _ _,
    fcvtDLu _ _ _, fmvXD _ _, fmvDX _ _]

/-- Settles O5: the word is the encoding of its instruction, and every encoding fits its row. -/
theorem decodedWordFitsItsRow : Obligations.DecodedWordFitsItsRow := by
  intro w i h
  rw [← (decode_spells h).word]
  exact encode_fits_row i

theorem eq_ofNat_of_toNat_eq {n k : Nat} {x : BitVec n} (h : x.toNat = k) : x = BitVec.ofNat n k := by
  rw [← h, BitVec.ofNat_toNat, BitVec.setWidth_eq]

theorem forall_field_eq {fs : List FixedField} {w : InstrWord} (h : ∀ f ∈ fs, f.holdsOf w) :
    fs.Forall fun f => w.extractLsb' f.lo f.len = BitVec.ofNat f.len f.value :=
  List.forall_iff_forall_mem.mpr fun f hf => eq_ofNat_of_toNat_eq (h f hf)

/-! The shapes that the rows' lists of fixed fields have, read as the fields the sub-dispatch asks for. -/

section Shapes

variable {w : InstrWord} {a b c d : Nat}

theorem row_opcode (h : ∀ f ∈ [(⟨0, 7, a⟩ : FixedField)], f.holdsOf w) : opcodeOf w = .ofNat 7 a := forall_field_eq h

theorem row_funct3 (h : ∀ f ∈ [(⟨0, 7, a⟩ : FixedField), ⟨12, 3, b⟩], f.holdsOf w) :
    opcodeOf w = .ofNat 7 a ∧ funct3Of w = .ofNat 3 b := forall_field_eq h

theorem row_func6 (h : ∀ f ∈ [(⟨0, 7, a⟩ : FixedField), ⟨12, 3, b⟩, ⟨26, 6, c⟩], f.holdsOf w) :
    opcodeOf w = .ofNat 7 a ∧ funct3Of w = .ofNat 3 b ∧ func6Of w = .ofNat 6 c := forall_field_eq h

theorem row_funct7 (h : ∀ f ∈ [(⟨0, 7, a⟩ : FixedField), ⟨12, 3, b⟩, ⟨25, 7, c⟩], f.holdsOf w) :
    opcodeOf w = .ofNat 7 a ∧ funct3Of w = .ofNat 3 b ∧ funct7Of w = .ofNat 7 c := forall_field_eq h

theorem row_func5 (h : ∀ f ∈ [(⟨0, 7, a⟩ : FixedField), ⟨12, 3, b⟩, ⟨27, 5, c⟩], f.holdsOf w) :
    opcodeOf w = .ofNat 7 a ∧ funct3Of w = .ofNat 3 b ∧ func5Of w = .ofNat 5 c := forall_field_eq h

theorem row_rs2_func5 (h : ∀ f ∈ [(⟨0, 7, a⟩ : FixedField), ⟨12, 3, b⟩, ⟨20, 5, c⟩, ⟨27, 5, d⟩], f.holdsOf w) :
    opcodeOf w = .ofNat 7 a ∧ funct3Of w = .ofNat 3 b ∧ rs2Of w = .ofNat 5 c ∧ func5Of w = .ofNat 5 d :=
  forall_field_eq h

theorem row_fmt (h : ∀ f ∈ [(⟨0, 7, a⟩ : FixedField), ⟨25, 2, b⟩], f.holdsOf w) :
    opcodeOf w = .ofNat 7 a ∧ fmtOf w = .ofNat 2 b := forall_field_eq h

theorem row_funct7_anyRm (h : ∀ f ∈ [(⟨0, 7, a⟩ : FixedField), ⟨25, 7, b⟩], f.holdsOf w) :
    opcodeOf w = .ofNat 7 a ∧ funct7Of w = .ofNat 7 b := forall_field_eq h

theorem row_high_anyRm (h : ∀ f ∈ [(⟨0, 7, a⟩ : FixedField), ⟨20, 12, b⟩], f.holdsOf w) :
    opcodeOf w = .ofNat 7 a ∧ imm12Of w = .ofNat 12 b := forall_field_eq h

theorem row_high (h : ∀ f ∈ [(⟨0, 7, a⟩ : FixedField), ⟨12, 3, b⟩, ⟨20, 12, c⟩], f.holdsOf w) :
    opcodeOf w = .ofNat 7 a ∧ funct3Of w = .ofNat 3 b ∧ imm12Of w = .ofNat 12 c := forall_field_eq h

/-- func5 and fmt are the parts of funct7 (R66). -/
theorem func5_fmt_of_funct7 {f7 : BitVec 7} (h : funct7Of w = f7) :
    func5Of w = f7.extractLsb' 2 5 ∧ fmtOf w = f7.extractLsb' 0 2 :=
  h ▸ ⟨func5Of_eq, fmtOf_eq⟩

/-- func5, fmt and rs2 are the parts of the word's high twelve bits (R66). -/
theorem func5_fmt_rs2_of_high {f12 : BitVec 12} (h : imm12Of w = f12) :
    func5Of w = (f12.extractLsb' 5 7).extractLsb' 2 5 ∧ fmtOf w = (f12.extractLsb' 5 7).extractLsb' 0 2 ∧
      rs2Of w = f12.extractLsb' 0 5 := by
  obtain ⟨h5, hf⟩ := func5_fmt_of_funct7 (h ▸ funct7Of_eq)
  exact ⟨h5, hf, h ▸ rs2Of_eq⟩

end Shapes

/-- The word decodes to an instruction of the same row as `i`. -/
def DecodesToRowOf (w : InstrWord) (i : Instr) : Prop := ∃ j, decode w = .ok j ∧ j.mnemonic = i.mnemonic

section Rows

variable {w : InstrWord} {i : Instr}

theorem decodesToRowOf_float (hk : i.kind = .float) (h : ∀ f ∈ i.fixedFields, f.holdsOf w) : DecodesToRowOf w i := by
  cases i with
  | flw | fld =>
    obtain ⟨hop, h3⟩ := row_funct3 h
    rw [DecodesToRowOf, decode_loadFp hop, decodeLoadFp, h3]
    exact ⟨_, rfl, rfl⟩
  | fsw | fsd =>
    obtain ⟨hop, h3⟩ := row_funct3 h
    rw [DecodesToRowOf, decode_storeFp hop, decodeStoreFp, h3]
    exact ⟨_, rfl, rfl⟩
  | fmaddS | fmaddD =>
    obtain ⟨hop, hf⟩ := row_fmt h
    rw [DecodesToRowOf, decode_madd hop, decodeMadd, hf]
    exact ⟨_, rfl, rfl⟩
  | fmsubS | fmsubD =>
    obtain ⟨hop, hf⟩ := row_fmt h
    rw [DecodesToRowOf, decode_msub hop, decodeMsub, hf]
    exact ⟨_, rfl, rfl⟩
  | fnmsubS | fnmsubD =>
    obtain ⟨hop, hf⟩ := row_fmt h
    rw [DecodesToRowOf, decode_nmsub hop, decodeNmsub, hf]
    exact ⟨_, rfl, rfl⟩
  | fnmaddS | fnmaddD =>
    obtain ⟨hop, hf⟩ := row_fmt h
    rw [DecodesToRowOf, decode_nmadd hop, decodeNmadd, hf]
    exact ⟨_, rfl, rfl⟩
  | faddS | fsubS | fmulS | fdivS | faddD | fsubD | fmulD | fdivD =>
    obtain ⟨hop, h7⟩ := row_funct7_anyRm h
    obtain ⟨h5, hf⟩ := func5_fmt_of_funct7 h7
    rw [DecodesToRowOf, decode_opFp hop, decodeOpFp, decodeOpFpSingle, decodeOpFpDouble, hf, h5]
    exact ⟨_, rfl, rfl⟩
  | fsgnjS | fsgnjnS | fsgnjxS | fminS | fmaxS | feqS | fltS | fleS
  | fsgnjD | fsgnjnD | fsgnjxD | fminD | fmaxD | feqD | fltD | fleD =>
    obtain ⟨hop, h3, h7⟩ := row_funct7 h
    obtain ⟨h5, hf⟩ := func5_fmt_of_funct7 h7
    rw [DecodesToRowOf, decode_opFp hop, decodeOpFp, decodeOpFpSingle, decodeOpFpDouble, hf, h5, h3]
    exact ⟨_, rfl, rfl⟩
  | fsqrtS | fcvtSD | fcvtWS | fcvtWuS | fcvtLS | fcvtLuS | fcvtSW | fcvtSWu | fcvtSL | fcvtSLu
  | fsqrtD | fcvtDS | fcvtWD | fcvtWuD | fcvtLD | fcvtLuD | fcvtDW | fcvtDWu | fcvtDL | fcvtDLu =>
    obtain ⟨hop, h12⟩ := row_high_anyRm h
    obtain ⟨h5, hf, h2⟩ := func5_fmt_rs2_of_high h12
    rw [DecodesToRowOf, decode_opFp hop, decodeOpFp, decodeOpFpSingle, decodeOpFpDouble, hf, h5, h2]
    exact ⟨_, rfl, rfl⟩
  | fclassS | fmvXW | fmvWX | fclassD | fmvXD | fmvDX =>
    obtain ⟨hop, h3, h12⟩ := row_high h
    obtain ⟨h5, hf, h2⟩ := func5_fmt_rs2_of_high h12
    rw [DecodesToRowOf, decode_opFp hop, decodeOpFp, decodeOpFpSingle, decodeOpFpDouble, hf, h5, h2, h3]
    exact ⟨_, rfl, rfl⟩
  | _ => cases hk

theorem decodesToRowOf_atomic (hk : i.kind = .atomic) (h : ∀ f ∈ i.fixedFields, f.holdsOf w) : DecodesToRowOf w i := by
  cases i with
  | lrW | lrD =>
    obtain ⟨hop, h3, h2, h5⟩ := row_rs2_func5 h
    rw [DecodesToRowOf, decode_amo hop, decodeAmo, decodeAmoWord, decodeAmoDoubleword, h3, h2, h5]
    exact ⟨_, rfl, rfl⟩
  | scW | amoswapW | amoaddW | amoxorW | amoandW | amoorW | amominW | amomaxW | amominuW | amomaxuW
  | scD | amoswapD | amoaddD | amoxorD | amoandD | amoorD | amominD | amomaxD | amominuD | amomaxuD =>
    obtain ⟨hop, h3, h5⟩ := row_func5 h
    rw [DecodesToRowOf, decode_amo hop, decodeAmo, decodeAmoWord, decodeAmoDoubleword, h3, h5]
    exact ⟨_, rfl, rfl⟩
  | _ => cases hk

/-- A word that fits a row decodes to an instruction of it, except PAUSE's word in FENCE's row (R85). -/
theorem decodesToRowOf_of_fits (h : ∀ f ∈ i.fixedFields, f.holdsOf w)
    (hp : i.mnemonic = "FENCE" → w ≠ 0x0100000F#32) : DecodesToRowOf w i := by
  cases i with
  | lui => exact ⟨_, decode_lui (row_opcode h), rfl⟩
  | auipc => exact ⟨_, decode_auipc (row_opcode h), rfl⟩
  | jal => exact ⟨_, decode_jal (row_opcode h), rfl⟩
  | jalr =>
    obtain ⟨hop, h3⟩ := row_funct3 h
    rw [DecodesToRowOf, decode_jalr hop, decodeJalr, h3]
    exact ⟨_, rfl, rfl⟩
  | beq | bne | blt | bge | bltu | bgeu =>
    obtain ⟨hop, h3⟩ := row_funct3 h
    rw [DecodesToRowOf, decode_branch hop, decodeBranch, h3]
    exact ⟨_, rfl, rfl⟩
  | lb | lh | lw | ld | lbu | lhu | lwu =>
    obtain ⟨hop, h3⟩ := row_funct3 h
    rw [DecodesToRowOf, decode_load hop, decodeLoad, h3]
    exact ⟨_, rfl, rfl⟩
  | sb | sh | sw | sd =>
    obtain ⟨hop, h3⟩ := row_funct3 h
    rw [DecodesToRowOf, decode_store hop, decodeStore, h3]
    exact ⟨_, rfl, rfl⟩
  | addi | slti | sltiu | xori | ori | andi =>
    obtain ⟨hop, h3⟩ := row_funct3 h
    rw [DecodesToRowOf, decode_opImm hop, decodeOpImm, h3]
    exact ⟨_, rfl, rfl⟩
  | slli | srli | srai =>
    obtain ⟨hop, h3, h6⟩ := row_func6 h
    rw [DecodesToRowOf, decode_opImm hop, decodeOpImm, h3, h6]
    exact ⟨_, rfl, rfl⟩
  | addiw =>
    obtain ⟨hop, h3⟩ := row_funct3 h
    rw [DecodesToRowOf, decode_opImm32 hop, decodeOpImm32, h3]
    exact ⟨_, rfl, rfl⟩
  | slliw | srliw | sraiw =>
    obtain ⟨hop, h3, h7⟩ := row_funct7 h
    rw [DecodesToRowOf, decode_opImm32 hop, decodeOpImm32, h3, h7]
    exact ⟨_, rfl, rfl⟩
  | add | sub | sll | slt | sltu | xor | srl | sra | or | and | mul | mulh | mulhsu | mulhu | div | divu | rem | remu =>
    obtain ⟨hop, h3, h7⟩ := row_funct7 h
    rw [DecodesToRowOf, decode_op hop, decodeOp, h3, h7]
    exact ⟨_, rfl, rfl⟩
  | addw | subw | sllw | srlw | sraw | mulw | divw | divuw | remw | remuw =>
    obtain ⟨hop, h3, h7⟩ := row_funct7 h
    rw [DecodesToRowOf, decode_op32 hop, decodeOp32, h3, h7]
    exact ⟨_, rfl, rfl⟩
  | pause | ecall | ebreak =>
    obtain rfl := BitVec.extractLsb'_eq_self.symm.trans (forall_field_eq h)
    exact ⟨_, rfl, rfl⟩
  | fence =>
    obtain ⟨hop, h3⟩ := row_funct3 h
    rw [DecodesToRowOf, decode_miscMem hop, decodeMiscMem_fence (hp rfl) h3]
    exact ⟨_, rfl, rfl⟩
  | fenceI =>
    obtain ⟨hop, h3⟩ := row_funct3 h
    rw [DecodesToRowOf, decode_miscMem hop, decodeMiscMem_fenceI h3]
    exact ⟨_, rfl, rfl⟩
  | lrW | scW | amoswapW | amoaddW | amoxorW | amoandW | amoorW | amominW | amomaxW | amominuW | amomaxuW
  | lrD | scD | amoswapD | amoaddD | amoxorD | amoandD | amoorD | amominD | amomaxD | amominuD | amomaxuD =>
    exact decodesToRowOf_atomic rfl h
  | _ => exact decodesToRowOf_float rfl h

end Rows

/-- Settles O6: by the rows' fixed fields, which are what the sub-dispatch looks at; PAUSE's exact word is tested first. -/
theorem rowWordDecodesToItsRow : Obligations.RowWordDecodesToItsRow := by
  intro w i h
  by_cases hp : w = 0x0100000F#32 ∧ i.mnemonic = "FENCE"
  · obtain ⟨rfl, hm⟩ := hp
    exact ⟨.pause, rfl, .inr ⟨rfl, hm, rfl⟩⟩
  · obtain ⟨j, hj, hm⟩ := decodesToRowOf_of_fits h fun hm hw => hp ⟨hw, hm⟩
    exact ⟨j, hj, .inl hm⟩

/-! ## The decode faults (R101) -/

theorem formatOf_eq_none_iff : ∀ op : BitVec 7, formatOf op = none ↔
    op.toNat ∉ [0x03, 0x07, 0x0F, 0x13, 0x17, 0x1B, 0x23, 0x27, 0x2F, 0x33, 0x37, 0x3B, 0x43, 0x47, 0x4B, 0x4F, 0x53, 0x63,
      0x67, 0x6F, 0x73] := by decide

/-- Every assigned opcode ends in 11 (R61). -/
theorem formatOf_of_low_bits : ∀ op : BitVec 7, op.extractLsb' 0 2 ≠ 0b11#2 → formatOf op = none := by decide

/-- The opcodes of each format in the table of R64. -/
def Format.opcodes : Format → List Nat
  | .r => [0x2F, 0x33, 0x3B, 0x53]
  | .r4 => [0x43, 0x47, 0x4B, 0x4F]
  | .i => [0x03, 0x07, 0x0F, 0x13, 0x1B, 0x67, 0x73]
  | .s => [0x23, 0x27]
  | .b => [0x63]
  | .u => [0x17, 0x37]
  | .j => [0x6F]

theorem mem_opcodes_of_formatOf {op : BitVec 7} {f : Format} (h : formatOf op = some f) : op.toNat ∈ f.opcodes := by
  unfold formatOf at h
  split at h <;> cases h <;> decide

section Faults

variable {w : InstrWord} {d : DecodeFault}

/-- The two ways to fault: an opcode without a format, or fields that select nothing. -/
theorem decode_error_cases (h : decode w = .error d) :
    (d = .noFormat (opcodeOf w) ∧ formatOf (opcodeOf w) = none) ∨
      ∃ f, formatOf (opcodeOf w) = some f ∧ d = .noVariant (opcodeOf w) (fieldsOf f w) := by
  rw [decode_eq] at h
  cases hf : formatOf (opcodeOf w) with
  | none => rw [hf] at h; cases h; exact .inl ⟨rfl, rfl⟩
  | some f =>
    rw [hf] at h
    cases hs : subDispatch w with
    | some i => rw [hs] at h; cases h
    | none => rw [hs] at h; cases h; exact .inr ⟨f, rfl, rfl⟩

theorem decode_noFormat_iff : decode w = .error (.noFormat (opcodeOf w)) ↔ formatOf (opcodeOf w) = none := by
  refine ⟨fun h => ?_, fun h => by rw [decode_eq, h]⟩
  obtain ⟨-, hf⟩ | ⟨f, -, hd⟩ := decode_error_cases h
  · exact hf
  · cases hd

end Faults

/-- Settles O3: `NoFormat` is raised where the opcode has no format, and the 128 opcodes are looked through. -/
theorem unassignedOpcodesAreNoFormat : Obligations.UnassignedOpcodesAreNoFormat := by
  refine ⟨fun w => decode_noFormat_iff.trans (formatOf_eq_none_iff _), fun w hw => ?_, by decide⟩
  refine decode_noFormat_iff.mpr (formatOf_of_low_bits _ ?_)
  rwa [opcodeOf, BitVec.extractLsb'_extractLsb'_of_le (by decide)]

/-- Settles O4: by the format of the opcode; every word of the U and J opcodes decodes. -/
theorem noVariantCarriesTheFields : Obligations.NoVariantCarriesTheFields := by
  refine ⟨fun w d h => ?_, fun w => ⟨fun hop => decode_auipc (eq_ofNat_of_toNat_eq hop),
    fun hop => decode_lui (eq_ofNat_of_toNat_eq hop), fun hop => decode_jal (eq_ofNat_of_toNat_eq hop)⟩⟩
  obtain hn | ⟨f, hf, rfl⟩ := decode_error_cases h
  · exact .inl hn
  have hop := mem_opcodes_of_formatOf hf
  refine .inr ⟨_, rfl, ?_⟩
  cases f with
  | r => exact .inl ⟨(by decide : Format.r.opcodes ⊆ _) hop, rfl⟩
  | r4 => exact .inl ⟨(by decide : Format.r4.opcodes ⊆ _) hop, rfl⟩
  | i => exact .inr (.inl ⟨hop, rfl⟩)
  | s => exact .inr (.inr (.inl ⟨hop, rfl⟩))
  | b => exact .inr (.inr (.inr ⟨List.mem_singleton.mp hop, rfl⟩))
  | u =>
    obtain hop | hop : (opcodeOf w).toNat = 0x17 ∨ (opcodeOf w).toNat = 0x37 := by simpa [Format.opcodes] using hop
    · rw [decode_auipc (eq_ofNat_of_toNat_eq hop)] at h
      cases h
    · rw [decode_lui (eq_ofNat_of_toNat_eq hop)] at h
      cases h
  | j =>
    rw [decode_jal (eq_ofNat_of_toNat_eq (List.mem_singleton.mp hop))] at h
    cases h

/-! ## SYSTEM and MISC-MEM words, and single words (R81, R85, R100, R104) -/

/-- Settles O9: the sub-dispatch of SYSTEM compares with two exact words. -/
theorem systemWords : Obligations.SystemWords := by
  refine ⟨rfl, rfl, fun w hop h0 h1 => ?_⟩
  rw [decode_system hop, decodeSystem, if_neg h0, if_neg h1]
  rfl

/-- Settles O10: by funct3, PAUSE's word excepted. -/
theorem miscMemWords : Obligations.MiscMemWords := by
  refine ⟨rfl, rfl, fun w hop hw => ?_⟩
  rw [decode_miscMem hop]
  refine ⟨fun h3 => ?_, fun h3 => ?_, fun h0 h1 => ?_⟩
  · rw [decodeMiscMem_fence hw h3]
    rfl
  · rw [decodeMiscMem_fenceI h3]
    exact ⟨_, _, _, rfl⟩
  · rw [decodeMiscMem_none h0 h1]
    exact ⟨_, rfl⟩

/-- Settles O8: the eight codes and the two words are computed. -/
theorem roundingModeCodes : Obligations.RoundingModeCodes :=
  ⟨rfl, rfl, rfl, rfl, rfl, rfl, rfl, rfl, rfl, rfl⟩

/-- Settles O11: each word is decoded by computation. -/
theorem workedWords : Obligations.WorkedWords :=
  ⟨rfl, rfl, rfl, rfl, rfl, rfl, rfl, rfl, rfl, rfl, rfl⟩

/-! ## The bits and the ranges of the immediates (R74 to R79) -/

section Bits

variable {n m lo lo' len j k : Nat}

/-- A bit inside a field that two values share. -/
theorem getLsbD_of_slice {x : BitVec n} {y : BitVec m} (h : x.extractLsb' lo len = y.extractLsb' lo' len) (hlo : lo ≤ j)
    (hhi : j < lo + len) (hk : k + lo = lo' + j) : x.getLsbD j = y.getLsbD k := by
  have e := congrArg (·.getLsbD (j - lo)) h
  have hlen : j - lo < len := by omega
  simpa only [BitVec.getLsbD_extractLsb', hlen, decide_true, Bool.true_and, Nat.add_sub_of_le hlo,
    show lo' + (j - lo) = k by omega] using e

/-- The bits from the sign up are the sign. -/
theorem signExtend_getLsbD_sign (x : BitVec n) (hn : n = k + 1) (hk : k ≤ j) (hj : j < m) :
    (x.signExtend m).getLsbD j = (x.signExtend m).getLsbD k := by
  subst hn
  have hkm : k < m := by omega
  rw [BitVec.getLsbD_signExtend, BitVec.getLsbD_signExtend, BitVec.msb_eq_getLsbD_last]
  simp only [hj, hkm, decide_true, Bool.true_and, Nat.lt_succ_self, if_true, Nat.add_sub_cancel]
  split
  · rw [show j = k by omega]
  · rfl

theorem signExtend_append_zero_getLsbD (x : BitVec n) (hj : j < k) :
    ((x ++ 0#k).signExtend m).getLsbD j = false := by
  have hn : j < n + k := by omega
  simp only [BitVec.getLsbD_signExtend, BitVec.getLsbD_append, hn, hj, if_true, BitVec.getLsbD_zero, Bool.and_false]

variable {w : InstrWord}

theorem immI_getLsbD (hj : j < 64) : (immI w).getLsbD j = w.getLsbD (if j < 12 then 20 + j else 31) := by
  split
  · exact getLsbD_of_slice immI_slice (by omega) (by omega) rfl
  · exact (signExtend_getLsbD_sign _ rfl (by omega) hj).trans (getLsbD_of_slice immI_slice (by decide) (by decide) rfl)

theorem immS_getLsbD (hj : j < 64) :
    (immS w).getLsbD j = w.getLsbD (if j < 5 then 7 + j else if j < 12 then 20 + j else 31) := by
  split_ifs
  · exact getLsbD_of_slice immS_low (by omega) (by omega) rfl
  · exact getLsbD_of_slice immS_high (by omega) (by omega) (by omega)
  · exact (signExtend_getLsbD_sign _ rfl (by omega) hj).trans (getLsbD_of_slice immS_high (by decide) (by decide) rfl)

theorem immB_getLsbD (hj : j < 64) :
    (immB w).getLsbD j =
      (decide (j ≠ 0) && w.getLsbD (if j < 5 then 7 + j else if j < 11 then 20 + j else if j = 11 then 7 else 31)) := by
  obtain ⟨h12, h11, h5, h1⟩ := immB_pieces (w := w)
  by_cases h0 : j = 0
  · subst h0
    exact signExtend_append_zero_getLsbD _ Nat.one_pos
  rw [decide_eq_true h0, Bool.true_and]
  split_ifs
  · exact getLsbD_of_slice h1 (by omega) (by omega) (by omega)
  · exact getLsbD_of_slice h5 (by omega) (by omega) (by omega)
  · exact getLsbD_of_slice h11 (by omega) (by omega) (by omega)
  · exact (signExtend_getLsbD_sign _ rfl (by omega) hj).trans (getLsbD_of_slice h12 (by decide) (by decide) rfl)

theorem immU_getLsbD (hj : j < 64) :
    (immU w).getLsbD j = (decide (12 ≤ j) && w.getLsbD (if j < 32 then j else 31)) := by
  by_cases h12 : 12 ≤ j
  · rw [decide_eq_true h12, Bool.true_and]
    split
    · exact getLsbD_of_slice immU_slice h12 (by omega) (by omega)
    · exact (signExtend_getLsbD_sign _ rfl (by omega) hj).trans
        (getLsbD_of_slice immU_slice (by decide) (by decide) rfl)
  · rw [decide_eq_false h12, Bool.false_and]
    exact signExtend_append_zero_getLsbD _ (by omega)

theorem immJ_getLsbD (hj : j < 64) :
    (immJ w).getLsbD j =
      (decide (j ≠ 0) && w.getLsbD (if j < 11 then 20 + j else if j = 11 then 20 else if j < 20 then j else 31)) := by
  obtain ⟨h20, h12, h11, h1⟩ := immJ_pieces (w := w)
  by_cases h0 : j = 0
  · subst h0
    exact signExtend_append_zero_getLsbD _ Nat.one_pos
  rw [decide_eq_true h0, Bool.true_and]
  split_ifs
  · exact getLsbD_of_slice h1 (by omega) (by omega) (by omega)
  · exact getLsbD_of_slice h11 (by omega) (by omega) (by omega)
  · exact getLsbD_of_slice h12 (by omega) (by omega) (by omega)
  · exact (signExtend_getLsbD_sign _ rfl (by omega) hj).trans (getLsbD_of_slice h20 (by decide) (by decide) rfl)

/-- A sign-extended value lies in the range of the field it was extended from. -/
theorem signExtend_toInt_bounds (x : BitVec n) (hn : n ≤ 64) :
    -2 ^ (n - 1) ≤ (x.signExtend 64).toInt ∧ (x.signExtend 64).toInt < 2 ^ (n - 1) := by
  rw [BitVec.toInt_signExtend_of_le hn]
  exact ⟨BitVec.le_toInt x, BitVec.toInt_lt⟩

theorem toInt_even {v : Word} (h : v.toNat % 2 = 0) : v.toInt % 2 = 0 := by
  rw [BitVec.toInt_eq_toNat_cond]
  split <;> omega

theorem immI_bounds (w : InstrWord) : -2048 ≤ (immI w).toInt ∧ (immI w).toInt ≤ 2047 := by
  obtain ⟨h1, h2⟩ := signExtend_toInt_bounds (imm12Of w) (by decide)
  exact ⟨h1, Int.le_of_lt_add_one h2⟩

theorem immS_bounds (w : InstrWord) : -2048 ≤ (immS w).toInt ∧ (immS w).toInt ≤ 2047 := by
  obtain ⟨h1, h2⟩ := signExtend_toInt_bounds (funct7Of w ++ rdOf w) (by decide)
  exact ⟨h1, Int.le_of_lt_add_one h2⟩

theorem immB_bounds (w : InstrWord) :
    -4096 ≤ (immB w).toInt ∧ (immB w).toInt ≤ 4094 ∧ (immB w).toInt % 2 = 0 := by
  have h : -2 ^ 12 ≤ (immB w).toInt ∧ (immB w).toInt < 2 ^ 12 := signExtend_toInt_bounds _ (by decide)
  have he := toInt_even (immB_even w)
  omega

theorem immJ_bounds (w : InstrWord) :
    -1048576 ≤ (immJ w).toInt ∧ (immJ w).toInt ≤ 1048574 ∧ (immJ w).toInt % 2 = 0 := by
  have h : -2 ^ 20 ≤ (immJ w).toInt ∧ (immJ w).toInt < 2 ^ 20 := signExtend_toInt_bounds _ (by decide)
  have he := toInt_even (immJ_even w)
  omega

end Bits

/-- Settles O7: each bit lies in a field of the word or above the sign, and the ranges are those of the fields. -/
theorem immediateBits : Obligations.ImmediateBits :=
  ⟨fun _ _ hj => ⟨immI_getLsbD hj, immS_getLsbD hj, immB_getLsbD hj, immU_getLsbD hj, immJ_getLsbD hj⟩,
    fun w => ⟨immI_bounds w, immS_bounds w, immB_bounds w, immJ_bounds w⟩, rfl⟩

end Sys2Proof

/-! SUPPORT. The two-instruction forms of li and la (spec 30_encoding.md R110): the halves of a 32-bit value, and what the pair
leaves in its register. -/

namespace Sys2Proof.Machine

/-! ## The halves of a value -/

section Halves

variable (v : BitVec 32)

/-- The low half of the split of R110 as a 32-bit value. -/
def lo32 : BitVec 32 := (v.extractLsb' 0 12).signExtend 32

theorem lo12_eq : lo12 v = (lo32 v).signExtend 64 := by
  apply BitVec.eq_of_toInt_eq
  rw [lo12, lo32, BitVec.toInt_signExtend_of_le (by decide), BitVec.toInt_signExtend_of_le (by decide),
    BitVec.toInt_signExtend_of_le (by decide)]

theorem lo32_setWidth : (lo32 v).setWidth 12 = v.setWidth 12 := by
  rw [lo32, BitVec.setWidth_eq_extractLsb' (by decide), extractLsb'_signExtend _ (by decide) (by decide),
    BitVec.extractLsb'_eq_self, BitVec.setWidth_eq_extractLsb' (by decide)]

/-- What is left without the low half has no low bits. -/
theorem sub_lo32_setWidth : (v - lo32 v).setWidth 12 = 0#12 := by
  have h := congrArg (BitVec.setWidth 12) (BitVec.sub_add_cancel v (lo32 v))
  rw [BitVec.setWidth_add _ _ (by decide), lo32_setWidth] at h
  simpa using h

theorem hi20_eq : hi20 v = (v - lo32 v).signExtend 64 := by
  have h := BitVec.extractLsb'_append_extractLsb' (w := 20) (len := 12) (x := v - lo32 v)
  rw [← BitVec.setWidth_eq_extractLsb' (by decide), sub_lo32_setWidth] at h
  exact congrArg (BitVec.signExtend 64) h

theorem low32_signExtend : low32 (v.signExtend 64) = v := by
  rw [low32, extractLsb'_signExtend _ (by decide) (by decide), BitVec.extractLsb'_eq_self]

theorem low32_add (a b : Word) : low32 (a + b) = low32 a + low32 b := by
  have h : 32 ≤ 64 := by decide
  simp only [low32, ← BitVec.setWidth_eq_extractLsb' h, BitVec.setWidth_add _ _ h]

/-- In 32 bits the halves add up for every value. -/
theorem addw_hi20_lo12 : alu .addw (hi20 v) (lo12 v) = v.signExtend 64 := by
  rw [alu, low32_add, hi20_eq, lo12_eq, low32_signExtend, low32_signExtend, BitVec.sub_add_cancel, sext32]

theorem sub_lo32_toInt_mod : (v - lo32 v).toInt % 4096 = 0 := by
  have h : (v - lo32 v).toNat % 4096 = 0 := by
    simpa using congrArg BitVec.toNat (sub_lo32_setWidth v)
  rw [BitVec.toInt_eq_toNat_cond]
  split <;> omega

theorem lo32_bounds : -2048 ≤ (lo32 v).toInt ∧ (lo32 v).toInt < 2048 := by
  rw [lo32, BitVec.toInt_signExtend_of_le (by decide)]
  exact ⟨BitVec.le_toInt _, BitVec.toInt_lt⟩

variable {v}

/-- As integers the halves add up in the reach of the pair: the high half is a multiple of 4096, so a sum that leaves the signed
32-bit range leaves it below, where `v` would be 0x7FFFF800 or more. -/
theorem toInt_halves (h : v.toInt < 0x7FFFF800) : (v - lo32 v).toInt + (lo32 v).toInt = v.toInt := by
  have hmod := sub_lo32_toInt_mod v
  have hlo := lo32_bounds v
  have hhi : -2 ^ 31 ≤ (v - lo32 v).toInt ∧ (v - lo32 v).toInt < 2 ^ 31 := ⟨BitVec.le_toInt _, BitVec.toInt_lt⟩
  have hv : v.toInt = ((v - lo32 v).toInt + (lo32 v).toInt).bmod (2 ^ 32) := by
    rw [← BitVec.toInt_add, BitVec.sub_add_cancel]
  rw [Int.bmod_def] at hv
  split at hv <;> omega

theorem hi20_add_lo12 (h : v.toInt < 0x7FFFF800) : hi20 v + lo12 v = v.signExtend 64 := by
  have h64 : 32 ≤ 64 := by decide
  apply BitVec.eq_of_toInt_eq
  rw [hi20_eq, lo12_eq, BitVec.toInt_add]
  simp only [BitVec.toInt_signExtend_of_le h64, toInt_halves h]
  rw [← BitVec.toInt_signExtend_of_le h64 (x := v), BitVec.toInt_bmod_cancel]

end Halves

/-! ## The pairs -/

/-- Two instructions one after the other, the second of which computes on what the first left in `rd`. -/
theorem exec_pair {i j : Instr} {s : State} {rd : XReg} {v : Word} {g : Word → Word} (hrd : rd.idx ≠ 0#5)
    (hi : CompletesWriting i s rd v) (hj : ∀ t, CompletesWriting j t rd (g (t.readX rd))) :
    ∃ t u, exec i s = .next t ∧ exec j t = .next u ∧ u.readX rd = g v := by
  obtain ⟨t, ht, hot⟩ := hi
  obtain ⟨u, hu, hou⟩ := hj t
  refine ⟨t, u, ht, hu, ?_⟩
  rw [hou.regs, if_pos ⟨rfl, hrd⟩, hot.regs, if_pos ⟨rfl, hrd⟩]

/-- Settles O60: the pair leaves the sum of the halves, in 32 bits for li, and in 64 bits from the pc on for la. -/
theorem pairsReachTheirValue : Obligations.PairsReachTheirValue := by
  intro s rd v hrd
  refine ⟨?_, fun h => ?_⟩
  · rw [← addw_hi20_lo12 v]
    exact exec_pair (g := fun x => alu .addw x (lo12 v)) hrd (completesWriting_of_retire rfl rfl) fun t =>
      completesWriting_of_retire rfl rfl
  · rw [← hi20_add_lo12 h, ← BitVec.add_assoc]
    exact exec_pair (g := fun x => x + lo12 v) hrd (completesWriting_of_retire rfl rfl) fun t =>
      completesWriting_of_retire rfl rfl

end Sys2Proof.Machine

/-! SUPPORT. The core step of spec 40_execute.md R121: what it is by the answer of the fetch at the pc and of the decoder, and
the faults it reports (R278, R281). -/

namespace Sys2Proof.Machine

/-! ## The step by what the fetch and the decoder answer -/

section Step

variable {s s' : State} {v : Word} {i : Instr}

/-- A fetch is the core's read of four bytes at the pc, without the zeros it extends them by (R50). -/
theorem fetch_of_memRead (h : memRead s s.pc 4 = .ok (v, s')) : fetch s = .ok (v.extractLsb' 0 32, s') := by
  simp only [fetch, h, BitVec.setWidth_eq_extractLsb' (show 32 ≤ 64 by decide)]

theorem step_of_memRead_error {f : DeviceFault} (h : memRead s s.pc 4 = .error f) : step s = .fault (.device f) := by
  simp only [step, fetch, h]

theorem step_of_decode_error {d : DecodeFault} (h : memRead s s.pc 4 = .ok (v, s'))
    (hd : decode (v.extractLsb' 0 32) = .error d) : step s = .fault (.decode d) := by
  simp only [step, fetch_of_memRead h, hd]

theorem step_of_decode_ok (h : memRead s s.pc 4 = .ok (v, s')) (hd : decode (v.extractLsb' 0 32) = .ok i) :
    step s = exec i s' := by
  simp only [step, fetch_of_memRead h, hd]

/-- Everything a step can be: the fetch's fault, the decoder's fault, or the decoded instruction run in the state the fetch
leaves (R121). -/
theorem step_cases (s : State) :
    (∃ f, memRead s s.pc 4 = .error f ∧ step s = .fault (.device f)) ∨
      (∃ v s' d, memRead s s.pc 4 = .ok (v, s') ∧ decode (v.extractLsb' 0 32) = .error d ∧ step s = .fault (.decode d)) ∨
      ∃ v s' i, memRead s s.pc 4 = .ok (v, s') ∧ decode (v.extractLsb' 0 32) = .ok i ∧ step s = exec i s' := by
  cases h : memRead s s.pc 4 with
  | error f => exact .inl ⟨f, rfl, step_of_memRead_error h⟩
  | ok p =>
    obtain ⟨v, s'⟩ := p
    cases hd : decode (v.extractLsb' 0 32) with
    | error d => exact .inr (.inl ⟨v, s', d, rfl, hd, step_of_decode_error h hd⟩)
    | ok i => exact .inr (.inr ⟨v, s', i, rfl, hd, step_of_decode_ok h hd⟩)

/-- An instruction raises execute faults alone: a data access's device fault is one of them (R120, R278). -/
theorem exec_fault {f : Fault} (h : exec i s = .fault f) : ∃ e, f = .execute e := by
  rcases exec_canOnly i s with ⟨t, ht, -⟩ | ⟨e, he⟩
  · cases ht.symm.trans h
  · cases he.symm.trans h
    exact ⟨e, rfl⟩

/-! ## Which fault a step reports -/

theorem memRead_of_step_device {f : DeviceFault} (h : step s = .fault (.device f)) : memRead s s.pc 4 = .error f := by
  rcases step_cases s with ⟨f', hm, hs⟩ | ⟨v, s', d, -, -, hs⟩ | ⟨v, s', i, -, -, hs⟩
  · cases hs.symm.trans h
    exact hm
  · cases hs.symm.trans h
  · obtain ⟨e, he⟩ := exec_fault (hs.symm.trans h)
    cases he

theorem decode_of_step_decode {d : DecodeFault} (h : step s = .fault (.decode d)) :
    ∃ v s', memRead s s.pc 4 = .ok (v, s') ∧ decode (v.extractLsb' 0 32) = .error d := by
  rcases step_cases s with ⟨f, -, hs⟩ | ⟨v, s', d', hm, hd, hs⟩ | ⟨v, s', i, -, -, hs⟩
  · cases hs.symm.trans h
  · cases hs.symm.trans h
    exact ⟨v, s', hm, hd⟩
  · obtain ⟨e, he⟩ := exec_fault (hs.symm.trans h)
    cases he

theorem exec_of_step_execute {e : ExecuteFault} (h : step s = .fault (.execute e)) :
    ∃ v s' i, memRead s s.pc 4 = .ok (v, s') ∧ decode (v.extractLsb' 0 32) = .ok i ∧ exec i s' = .fault (.execute e) := by
  rcases step_cases s with ⟨f, -, hs⟩ | ⟨v, s', d, -, -, hs⟩ | ⟨v, s', i, hm, hd, hs⟩
  · cases hs.symm.trans h
  · cases hs.symm.trans h
  · exact ⟨v, s', i, hm, hd, hs.symm.trans h⟩

/-! ## The word a step runs -/

/-- The word of four RAM bytes at the pc is the word the fetch answers (R50). -/
theorem step_of_inRam (hr : InRam s s.pc.toNat 4) (hd : decode (s.wordAt s.pc.toNat) = .ok i) : step s = exec i s := by
  have hm := memRead_inRam (n := 4) (by decide) hr
  rw [readBytes_wordAt] at hm
  refine step_of_decode_ok hm ?_
  rwa [← BitVec.setWidth_eq_extractLsb' (by decide), setWidth_setWidth_self (by decide)]

theorem SameButLog.eq_withDevLog (h : SameButLog s s') : s' = { s with devLog := s'.devLog } := by
  obtain ⟨hx, hf, hpc, hmem, hbus, hm, ha⟩ := h
  rw [← hx, ← hf, ← hpc, ← hmem, ← hbus, ← hm, ← ha]

end Step

/-- Settles O38: each stage's fault is the step's, and a step's fault names its stage, since an instruction raises execute
faults alone. -/
theorem stepReportsTheFirstError : Obligations.StepReportsTheFirstError := by
  intro s
  exact ⟨fun f => step_of_memRead_error, fun v s' d => step_of_decode_error, fun f => memRead_of_step_device,
    fun d => decode_of_step_decode, fun v s' i e hm hd he => (step_of_decode_ok hm hd).trans he,
    fun e => exec_of_step_execute⟩

/-- Settles O37: the step runs what the fetched word decodes to, in the state the fetch leaves. -/
theorem stepRunsDecoded : Obligations.StepRunsDecoded :=
  ⟨fun _ _ => step_of_inRam, fun _ _ _ _ hm hd => ⟨step_of_decode_ok hm hd, (memRead_sameButLog hm).eq_withDevLog⟩⟩

end Sys2Proof.Machine

/-! SUPPORT. The branch comparator and the integer ALU of spec 40_execute.md (R112 to R114), each result as a number. -/

namespace Sys2Proof.Machine

/-! ## The comparisons (R114) -/

section Compare

variable {a b : Word}

theorem ltSigned_iff : ltSigned a b = true ↔ a.toInt < b.toInt := decide_eq_true_iff

theorem ltUnsigned_iff : ltUnsigned a b = true ↔ a.toNat < b.toNat := decide_eq_true_iff

theorem not_ltSigned_iff : (!ltSigned a b) = true ↔ b.toInt ≤ a.toInt := by
  rw [Bool.not_eq_true', ← Bool.not_eq_true, ltSigned_iff, Int.not_lt]

theorem not_ltUnsigned_iff : (!ltUnsigned a b) = true ↔ b.toNat ≤ a.toNat := by
  rw [Bool.not_eq_true', ← Bool.not_eq_true, ltUnsigned_iff, Nat.not_lt]

end Compare

/-- Settles O14: two conditions compare the values, and the others are the two orders and their complements. -/
theorem branchComparator : Obligations.BranchComparator := fun _ _ =>
  ⟨beq_iff_eq, bne_iff_ne, ltSigned_iff, not_ltSigned_iff, ltUnsigned_iff, not_ltUnsigned_iff⟩

/-! ## The parts of an operand that the ALU reads -/

section Operands

variable (v a b : Word)

theorem amount6_eq : amount6 b = b.toNat % 64 := BitVec.extractLsb'_toNat 0 6 b

theorem amount5_eq : amount5 b = b.toNat % 32 := BitVec.extractLsb'_toNat 0 5 b

theorem low32_eq_setWidth : low32 v = v.setWidth 32 := (BitVec.setWidth_eq_extractLsb' (by decide)).symm

theorem low32_toNat : (low32 v).toNat = v.toNat % 2 ^ 32 := BitVec.extractLsb'_toNat 0 32 v

theorem low32_toInt : (low32 v).toInt = (v.toNat : Int).bmod (2 ^ 32) := BitVec.toInt_extractLsb'

theorem sext32_toInt (x : BitVec 32) : (sext32 x).toInt = x.toInt := BitVec.toInt_signExtend_of_le (by decide)

theorem low32_sub : low32 (a - b) = low32 a - low32 b :=
  eq_sub_of_add_eq (by rw [← low32_add, sub_add_cancel])

/-- The amount of a 32-bit shift lies in the low word. -/
theorem amount5_eq_low32 : amount5 b = (low32 b).toNat % 32 := by
  rw [amount5_eq, low32_toNat]
  omega

end Operands

/-! ## The fifteen operations (R112) -/

section Table

variable (a b : Word)

theorem alu_sub_toNat : (alu .sub a b).toNat = (a.toNat + 2 ^ 64 - b.toNat) % 2 ^ 64 := by
  have h : (alu .sub a b).toNat = (2 ^ 64 - b.toNat + a.toNat) % 2 ^ 64 := BitVec.toNat_sub a b
  rw [h, Nat.add_comm a.toNat, Nat.sub_add_comm b.isLt.le]

theorem alu_sll_toNat : (alu .sll a b).toNat = a.toNat * 2 ^ (b.toNat % 64) % 2 ^ 64 := by
  rw [alu, BitVec.toNat_shiftLeft, Nat.shiftLeft_eq, amount6_eq]

theorem alu_srl_toNat : (alu .srl a b).toNat = a.toNat / 2 ^ (b.toNat % 64) := by
  rw [alu, BitVec.toNat_ushiftRight, Nat.shiftRight_eq_div_pow, amount6_eq]

/-- A right shift of a signed value divides it, rounding down. -/
theorem toInt_sshiftRight_eq_div {n : Nat} (x : BitVec n) (k : Nat) : (x.sshiftRight k).toInt = x.toInt / 2 ^ k := by
  rw [BitVec.toInt_sshiftRight, Int.shiftRight_eq_div_pow, Nat.cast_pow, Nat.cast_ofNat]

theorem alu_sra_toInt : (alu .sra a b).toInt = a.toInt / 2 ^ (b.toNat % 64) := by
  rw [alu, toInt_sshiftRight_eq_div, amount6_eq]

theorem alu_slt : alu .slt a b = if a.toInt < b.toInt then 1#64 else 0#64 := by
  simp only [alu, boolWord, ltSigned_iff]

theorem alu_sltu : alu .sltu a b = if a.toNat < b.toNat then 1#64 else 0#64 := by
  simp only [alu, boolWord, ltUnsigned_iff]

theorem alu_addw_toInt : (alu .addw a b).toInt = ((a.toNat : Int) + b.toNat).bmod (2 ^ 32) := by
  rw [alu, sext32_toInt, low32_add, BitVec.toInt_add, low32_toInt, low32_toInt, Int.bmod_add_bmod, Int.add_bmod_bmod]

theorem alu_subw_toInt : (alu .subw a b).toInt = ((a.toNat : Int) - b.toNat).bmod (2 ^ 32) := by
  rw [alu, sext32_toInt, low32_sub, BitVec.toInt_sub, low32_toInt, low32_toInt, Int.bmod_sub_bmod, Int.sub_bmod_bmod]

theorem alu_sllw_toInt : (alu .sllw a b).toInt = ((a.toNat : Int) * 2 ^ (b.toNat % 32)).bmod (2 ^ 32) := by
  rw [alu, sext32_toInt, BitVec.toInt_shiftLeft, Nat.shiftLeft_eq, low32_toNat, amount5_eq, Nat.cast_mul, Int.natCast_emod,
    Int.emod_mul_bmod, Nat.cast_pow, Nat.cast_ofNat]

theorem alu_srlw_toInt :
    (alu .srlw a b).toInt = ((a.toNat % 2 ^ 32 / 2 ^ (b.toNat % 32) : Nat) : Int).bmod (2 ^ 32) := by
  rw [alu, sext32_toInt, BitVec.toInt_eq_toNat_bmod, BitVec.toNat_ushiftRight, Nat.shiftRight_eq_div_pow, low32_toNat,
    amount5_eq]

theorem alu_sraw_toInt : (alu .sraw a b).toInt = (a.toNat : Int).bmod (2 ^ 32) / 2 ^ (b.toNat % 32) := by
  rw [alu, sext32_toInt, toInt_sshiftRight_eq_div, low32_toInt, amount5_eq]

end Table

/-- Settles O12: each operation's result is the number of its row; those of ADD and of the bitwise operations are what the
operation on words is. -/
theorem aluTable : Obligations.AluTable := fun a b =>
  ⟨BitVec.toNat_add a b, alu_sub_toNat a b, alu_sll_toNat a b, alu_srl_toNat a b, alu_sra_toInt a b, alu_slt a b,
    alu_sltu a b, fun _ => BitVec.getLsbD_xor, fun _ => BitVec.getLsbD_or, fun _ => BitVec.getLsbD_and, alu_addw_toInt a b,
    alu_subw_toInt a b, alu_sllw_toInt a b, alu_srlw_toInt a b, alu_sraw_toInt a b⟩

/-! ## What the operations depend on (R113) -/

section Depends

variable {op : AluOp} {a b a' b' : Word}

/-- A 64-bit shift reads of its second operand the amount alone. -/
theorem alu_congr_amount6 (hop : op ∈ [AluOp.sll, .srl, .sra]) (h : amount6 b = amount6 b') : alu op a b = alu op a b' := by
  simp only [List.mem_cons, List.not_mem_nil, or_false] at hop
  rcases hop with rfl | rfl | rfl <;> simp only [alu, h]

/-- A 32-bit shift reads of its second operand the amount alone. -/
theorem alu_congr_amount5 (hop : op ∈ [AluOp.sllw, .srlw, .sraw]) (h : amount5 b = amount5 b') :
    alu op a b = alu op a b' := by
  simp only [List.mem_cons, List.not_mem_nil, or_false] at hop
  rcases hop with rfl | rfl | rfl <;> simp only [alu, h]

theorem amount6_mod (b : Word) : amount6 b = amount6 (BitVec.ofNat 64 (b.toNat % 64)) := by
  rw [amount6_eq, amount6_eq, BitVec.toNat_ofNat]
  omega

theorem amount5_mod (b : Word) : amount5 b = amount5 (BitVec.ofNat 64 (b.toNat % 32)) := by
  rw [amount5_eq, amount5_eq, BitVec.toNat_ofNat]
  omega

/-- A W operation reads the low words of its operands alone. -/
theorem alu_congr_low32 (hop : op ∈ [AluOp.addw, .subw, .sllw, .srlw, .sraw]) (ha : low32 a = low32 a')
    (hb : low32 b = low32 b') : alu op a b = alu op a' b' := by
  simp only [List.mem_cons, List.not_mem_nil, or_false] at hop
  rcases hop with rfl | rfl | rfl | rfl | rfl <;> simp only [alu, low32_add, low32_sub, amount5_eq_low32, ha, hb]

/-- A comparison's result is one of the two words of R112. -/
theorem alu_compare_bit (hop : op ∈ [AluOp.slt, .sltu]) : alu op a b = 0#64 ∨ alu op a b = 1#64 := by
  have hbit (c : Bool) : boolWord c = 0#64 ∨ boolWord c = 1#64 := by cases c <;> decide
  simp only [List.mem_cons, List.not_mem_nil, or_false] at hop
  rcases hop with rfl | rfl
  · exact hbit _
  · exact hbit _

theorem alu_sltu_eq_one_iff : alu .sltu a b = 1#64 ↔ a.toNat < b.toNat := by
  rw [alu_sltu]
  split
  case isTrue h => exact iff_of_true rfl h
  case isFalse h => exact iff_of_false (by decide) h

/-- SLTU with 0 on the left tells whether a value is not 0. -/
theorem alu_sltu_zero_left : alu .sltu 0#64 b = 1#64 ↔ b ≠ 0#64 :=
  alu_sltu_eq_one_iff.trans (BitVec.pos_iff_ne_zero b)

/-- SLTU with 1 on the right tells whether a value is 0. -/
theorem alu_sltu_one_right : alu .sltu a 1#64 = 1#64 ↔ a = 0#64 :=
  alu_sltu_eq_one_iff.trans (BitVec.lt_one_iff (by decide))

end Depends

/-- A shift by 0 gives its first operand, or the sign-extended low word of it. -/
theorem alu_shift_zero (a : Word) : alu .sll a 0#64 = a ∧ alu .srl a 0#64 = a ∧ alu .sra a 0#64 = a ∧
    alu .sllw a 0#64 = (a.setWidth 32).signExtend 64 ∧ alu .srlw a 0#64 = (a.setWidth 32).signExtend 64 ∧
    alu .sraw a 0#64 = (a.setWidth 32).signExtend 64 := by
  have h6 : amount6 0#64 = 0 := by decide
  have h5 : amount5 0#64 = 0 := by decide
  simp only [alu, h6, h5, BitVec.shiftLeft_zero, BitVec.ushiftRight_zero, BitVec.sshiftRight_zero, sext32,
    low32_eq_setWidth, and_self]

/-- Settles O13: the shifts by 0, what each kind of operation depends on, and what the comparisons answer; the two sums are
computed. -/
theorem aluConsequences : Obligations.AluConsequences := by
  refine ⟨by decide, alu_shift_zero, fun a b => ⟨fun op hop => alu_congr_amount6 hop (amount6_mod b), fun op hop =>
    alu_congr_amount5 hop (amount5_mod b), fun op => alu_compare_bit, alu_sltu_zero_left, alu_sltu_one_right⟩,
    fun op hop a b a' b' ha hb => alu_congr_low32 hop ?_ ?_⟩
  · rwa [low32_eq_setWidth, low32_eq_setWidth]
  · rwa [low32_eq_setWidth, low32_eq_setWidth]

end Sys2Proof.Machine

/-! SUPPORT. The integer computational instructions of spec 41_integer_computational.md (R123 to R152): the words their rules
spell, and the values they write. -/

namespace Sys2Proof

open Laws

/-! ## The words of the I and U layouts (R69, R72), and the words that select no shift (R131, R145) -/

section Words

variable {i : Instr} {w : InstrWord} {rs1 rd : BitVec 5} {f3 : BitVec 3} {op : BitVec 7}

theorem wfImm12_signExtend (x : BitVec 12) : wfImm12 (x.signExtend 64) = true := by
  rw [wfImm12, beq_iff_eq, extractLsb'_signExtend _ (by decide) (by decide), BitVec.extractLsb'_eq_self]

theorem wfImmU_append_zero (x : BitVec 20) : wfImmU ((x ++ 0#12).signExtend 64) = true := by
  rw [wfImmU, beq_iff_eq, extractLsb'_signExtend _ (by decide) (by decide), BitVec.extractLsb'_append_eq_left]

/-- A word spelled in the I layout is the one that the encoder gives the instruction with the sign-extended immediate. -/
theorem decode_of_encode_eq_encI {x : BitVec 12} (h : encode i = encI (x.signExtend 64) rs1 f3 rd op)
    (hwf : i.wf = wfImm12 (x.signExtend 64)) : decode (x ++ rs1 ++ f3 ++ rd ++ op) = .ok i := by
  rw [encI, extractLsb'_signExtend _ (by decide) (by decide), BitVec.extractLsb'_eq_self] at h
  exact h ▸ decode_encode i (hwf.trans (wfImm12_signExtend x))

/-- A word spelled in the U layout is the one that the encoder gives the instruction with the immediate in its high bits. -/
theorem decode_of_encode_eq_encU {x : BitVec 20} (h : encode i = encU ((x ++ 0#12).signExtend 64) rd op)
    (hwf : i.wf = wfImmU ((x ++ 0#12).signExtend 64)) : decode (x ++ rd ++ op) = .ok i := by
  rw [encU, extractLsb'_signExtend _ (by decide) (by decide), BitVec.extractLsb'_append_eq_left] at h
  exact h ▸ decode_encode i (hwf.trans (wfImmU_append_zero x))

/-- Of the words with SLLI's funct3, only those with func6 000000 select an instruction: `h6` excludes the one arm
that does (R86). -/
theorem decodeOpImm_none (h3 : funct3Of w = 0b001#3) (h6 : func6Of w ≠ 0b000000#6) : decodeOpImm w = none := by
  simp only [decodeOpImm, h3]

/-- Of the words with SLLIW's funct3, only those with funct7 0000000 select an instruction: `h7` excludes the one
arm that does (R88). -/
theorem decodeOpImm32_none (h3 : funct3Of w = 0b001#3) (h7 : funct7Of w ≠ 0b0000000#7) : decodeOpImm32 w = none := by
  simp only [decodeOpImm32, h3]

theorem decode_slli_fault {f6 : BitVec 6} (sh : BitVec 6) (h : f6 ≠ 0b000000#6) : ∃ fields,
    decode (encShift6 f6 sh rs1 0b001#3 rd 0x13#7) = .error (.noVariant 0x13#7 fields) := by
  rw [decode_opImm (encShift6_opcode ..), decodeOpImm_none (encShift6_funct3 ..) (by rwa [encShift6_func6])]
  exact ⟨_, rfl⟩

theorem decode_slliw_fault {f7 : BitVec 7} (sh : BitVec 5) (h : f7 ≠ 0b0000000#7) : ∃ fields,
    decode (encR f7 sh rs1 0b001#3 rd 0x1B#7) = .error (.noVariant 0x1B#7 fields) := by
  rw [decode_opImm32 (encR_opcode ..), decodeOpImm32_none (encR_funct3 ..) (by rwa [encR_funct7])]
  exact ⟨_, rfl⟩

end Words

end Sys2Proof

namespace Sys2Proof.Machine

/-! ## The shifts by their amount, and the W operations, as operations on words (R112) -/

section Values

variable {a b : Word} {k : Nat}

theorem alu_sll_of_amount (h : amount6 b = k) : alu .sll a b = a <<< k := by rw [alu, h]

theorem alu_srl_of_amount (h : amount6 b = k) : alu .srl a b = a >>> k := by rw [alu, h]

theorem alu_sra_of_amount (h : amount6 b = k) : alu .sra a b = a.sshiftRight k := by rw [alu, h]

theorem alu_addw : alu .addw a b = ((a + b).setWidth 32).signExtend 64 := by rw [alu, low32_eq_setWidth, sext32]

theorem alu_subw : alu .subw a b = ((a - b).setWidth 32).signExtend 64 := by rw [alu, low32_eq_setWidth, sext32]

theorem alu_sllw_of_amount (h : amount5 b = k) : alu .sllw a b = (a.setWidth 32 <<< k).signExtend 64 := by
  rw [alu, h, low32_eq_setWidth, sext32]

theorem alu_srlw_of_amount (h : amount5 b = k) : alu .srlw a b = (a.setWidth 32 >>> k).signExtend 64 := by
  rw [alu, h, low32_eq_setWidth, sext32]

theorem alu_sraw_of_amount (h : amount5 b = k) : alu .sraw a b = ((a.setWidth 32).sshiftRight k).signExtend 64 := by
  rw [alu, h, low32_eq_setWidth, sext32]

/-- The amount of a 64-bit shift by an immediate is the immediate. -/
theorem amount6_shamtOperand (shamt : BitVec 6) : amount6 (shamtOperand shamt) = shamt.toNat := by
  rw [amount6_eq, shamtOperand, BitVec.toNat_setWidth]
  omega

/-- The amount of a 32-bit shift by an immediate is the immediate. -/
theorem amount5_shamtOperand (shamt : BitVec 5) : amount5 (shamtOperand shamt) = shamt.toNat := by
  rw [amount5_eq, shamtOperand, BitVec.toNat_setWidth]
  omega

end Values

/-! ## The instructions (R123 to R152): the word of each decodes by its layout, and its meaning retires one value -/

/-- Settles O16: the value is the immediate, or its sum with the pc. -/
theorem upperImmediates : Obligations.UpperImmediates := fun _ _ _ _ =>
  ⟨decode_of_encode_eq_encU rfl rfl, decode_of_encode_eq_encU rfl rfl, completesWriting_of_retire rfl rfl,
    completesWriting_of_retire rfl rfl⟩

/-- Settles O17: the value is the sum, or one of the two comparisons. -/
theorem addAndCompareImmediates : Obligations.AddAndCompareImmediates := fun _ _ _ _ _ =>
  ⟨decode_of_encode_eq_encI rfl rfl, completesWriting_of_retire rfl rfl,
    decode_of_encode_eq_encI rfl rfl, completesWriting_of_retire rfl (alu_slt _ _),
    decode_of_encode_eq_encI rfl rfl, completesWriting_of_retire rfl (alu_sltu _ _)⟩

/-- Settles O18: the value is the bitwise operation's. -/
theorem logicImmediates : Obligations.LogicImmediates := fun _ _ _ _ _ =>
  ⟨decode_of_encode_eq_encI rfl rfl, completesWriting_of_retire rfl rfl,
    decode_of_encode_eq_encI rfl rfl, completesWriting_of_retire rfl rfl,
    decode_of_encode_eq_encI rfl rfl, completesWriting_of_retire rfl rfl⟩

/-- Settles O19: the amount is the six bits of the word, and no other func6 selects an instruction under SLLI's funct3. -/
theorem shiftImmediates : Obligations.ShiftImmediates := fun _ rd rs1 shamt =>
  have hk := amount6_shamtOperand shamt
  ⟨decode_encode (.slli rd rs1 shamt) rfl, completesWriting_of_retire rfl (alu_sll_of_amount hk),
    decode_encode (.srli rd rs1 shamt) rfl, completesWriting_of_retire rfl (alu_srl_of_amount hk),
    decode_encode (.srai rd rs1 shamt) rfl, completesWriting_of_retire rfl (alu_sra_of_amount hk),
    fun _ => decode_slli_fault shamt⟩

/-- Settles O20: the value is the sum, the difference, or one of the two comparisons. -/
theorem addSubtractCompare : Obligations.AddSubtractCompare := fun _ rd rs1 rs2 =>
  ⟨decode_encode (.add rd rs1 rs2) rfl, completesWriting_of_retire rfl rfl,
    decode_encode (.sub rd rs1 rs2) rfl, completesWriting_of_retire rfl rfl,
    decode_encode (.slt rd rs1 rs2) rfl, completesWriting_of_retire rfl (alu_slt _ _),
    decode_encode (.sltu rd rs1 rs2) rfl, completesWriting_of_retire rfl (alu_sltu _ _)⟩

/-- Settles O21: the value is the bitwise operation's. -/
theorem logicRegisters : Obligations.LogicRegisters := fun _ rd rs1 rs2 =>
  ⟨decode_encode (.xor rd rs1 rs2) rfl, completesWriting_of_retire rfl rfl,
    decode_encode (.or rd rs1 rs2) rfl, completesWriting_of_retire rfl rfl,
    decode_encode (.and rd rs1 rs2) rfl, completesWriting_of_retire rfl rfl⟩

/-- Settles O22: the amount is the register's value modulo 64. -/
theorem shiftRegisters : Obligations.ShiftRegisters := fun s rd rs1 rs2 =>
  have hk := amount6_eq (s.readX rs2)
  ⟨decode_encode (.sll rd rs1 rs2) rfl, completesWriting_of_retire rfl (alu_sll_of_amount hk),
    decode_encode (.srl rd rs1 rs2) rfl, completesWriting_of_retire rfl (alu_srl_of_amount hk),
    decode_encode (.sra rd rs1 rs2) rfl, completesWriting_of_retire rfl (alu_sra_of_amount hk)⟩

/-- Settles O23: the value is the low word's, by an amount of five bits, and no other funct7 selects an instruction under
SLLIW's funct3. -/
theorem wordImmediates : Obligations.WordImmediates := fun _ rd rs1 _ shamt _ =>
  have hk := amount5_shamtOperand shamt
  ⟨decode_of_encode_eq_encI rfl rfl, completesWriting_of_retire rfl alu_addw,
    decode_encode (.slliw rd rs1 shamt) rfl, completesWriting_of_retire rfl (alu_sllw_of_amount hk),
    decode_encode (.srliw rd rs1 shamt) rfl, completesWriting_of_retire rfl (alu_srlw_of_amount hk),
    decode_encode (.sraiw rd rs1 shamt) rfl, completesWriting_of_retire rfl (alu_sraw_of_amount hk),
    decode_slliw_fault shamt (by decide)⟩

/-- Settles O24: the value is the low words', and the amount is the register's value modulo 32. -/
theorem wordRegisters : Obligations.WordRegisters := fun s rd rs1 rs2 =>
  have hk := amount5_eq (s.readX rs2)
  ⟨decode_encode (.addw rd rs1 rs2) rfl, completesWriting_of_retire rfl alu_addw,
    decode_encode (.subw rd rs1 rs2) rfl, completesWriting_of_retire rfl alu_subw,
    decode_encode (.sllw rd rs1 rs2) rfl, completesWriting_of_retire rfl (alu_sllw_of_amount hk),
    decode_encode (.srlw rd rs1 rs2) rfl, completesWriting_of_retire rfl (alu_srlw_of_amount hk),
    decode_encode (.sraw rd rs1 rs2) rfl, completesWriting_of_retire rfl (alu_sraw_of_amount hk)⟩

end Sys2Proof.Machine

/-! SUPPORT. The control transfer instructions of spec 42_control_transfer.md (R153 to R160): the words their rules spell, the
link and target of a jump, and the outcomes of a branch. -/

namespace Sys2Proof

open Laws

/-! ## The words of the J and B layouts (R71, R73): the immediate in pieces -/

section Words

variable {i : Instr} {rs2 rs1 rd : BitVec 5} {f3 : BitVec 3} {op : BitVec 7}

theorem wfImmJ_append_zero (x : BitVec 20) : wfImmJ ((x ++ 0#1).signExtend 64) = true := by
  rw [wfImmJ, beq_iff_eq, extractLsb'_signExtend _ (by decide) (by decide), BitVec.extractLsb'_append_eq_left]

theorem wfImmB_append_zero (x : BitVec 12) : wfImmB ((x ++ 0#1).signExtend 64) = true := by
  rw [wfImmB, beq_iff_eq, extractLsb'_signExtend _ (by decide) (by decide), BitVec.extractLsb'_append_eq_left]

/-- The J layout takes the immediate apart in the order of the word (R73, R78). -/
theorem encJ_of_pieces (b20 b11 : BitVec 1) (b10_1 : BitVec 10) (b19_12 : BitVec 8) :
    encJ ((b20 ++ b19_12 ++ b11 ++ b10_1 ++ 0#1).signExtend 64) rd op = b20 ++ b10_1 ++ b11 ++ b19_12 ++ rd ++ op := by
  simp (disch := decide) only [encJ, extractLsb'_signExtend, BitVec.extractLsb'_append_eq_of_add_le,
    BitVec.extractLsb'_append_eq_of_le, BitVec.extractLsb'_eq_self, Nat.reduceSub]

/-- The B layout takes the immediate apart in the order of the word (R71, R76). -/
theorem encB_of_pieces (b12 b11 : BitVec 1) (b10_5 : BitVec 6) (b4_1 : BitVec 4) :
    encB ((b12 ++ b11 ++ b10_5 ++ b4_1 ++ 0#1).signExtend 64) rs2 rs1 f3 op =
      b12 ++ b10_5 ++ rs2 ++ rs1 ++ f3 ++ b4_1 ++ b11 ++ op := by
  simp (disch := decide) only [encB, encR, extractLsb'_signExtend, BitVec.extractLsb'_append_eq_of_add_le,
    BitVec.extractLsb'_append_eq_of_le, BitVec.extractLsb'_eq_self, Nat.reduceSub]
  exact congrArg (· ++ op) BitVec.append_assoc'

/-- A word spelled in the J layout is the one that the encoder gives the instruction with the pieces of the immediate put
together. -/
theorem decode_of_encode_eq_encJ {b20 b11 : BitVec 1} {b10_1 : BitVec 10} {b19_12 : BitVec 8}
    (h : encode i = encJ ((b20 ++ b19_12 ++ b11 ++ b10_1 ++ 0#1).signExtend 64) rd op)
    (hwf : i.wf = wfImmJ ((b20 ++ b19_12 ++ b11 ++ b10_1 ++ 0#1).signExtend 64)) :
    decode (b20 ++ b10_1 ++ b11 ++ b19_12 ++ rd ++ op) = .ok i := by
  rw [encJ_of_pieces] at h
  exact h ▸ decode_encode i (hwf.trans (wfImmJ_append_zero _))

/-- A word spelled in the B layout is the one that the encoder gives the instruction with the pieces of the immediate put
together. -/
theorem decode_of_encode_eq_encB {b12 b11 : BitVec 1} {b10_5 : BitVec 6} {b4_1 : BitVec 4}
    (h : encode i = encB ((b12 ++ b11 ++ b10_5 ++ b4_1 ++ 0#1).signExtend 64) rs2 rs1 f3 op)
    (hwf : i.wf = wfImmB ((b12 ++ b11 ++ b10_5 ++ b4_1 ++ 0#1).signExtend 64)) :
    decode (b12 ++ b10_5 ++ rs2 ++ rs1 ++ f3 ++ b4_1 ++ b11 ++ op) = .ok i := by
  rw [encB_of_pieces] at h
  exact h ▸ decode_encode i (hwf.trans (wfImmB_append_zero _))

end Words

end Sys2Proof

namespace Sys2Proof.Machine

/-! ## How jumps and branches complete (R153 to R160) -/

/-- A jump completes, changing the link register and the pc alone. -/
theorem onlyRegister_of_jump {i : Instr} {s : State} {rd : XReg} {v target pc : Word}
    (h : exec i s = .next ((s.writeX rd v).jump target)) (e : target = pc) :
    ∃ t, exec i s = .next t ∧ OnlyRegister s t rd v pc := by
  subst e
  exact ⟨_, h, onlyRegister_jump s rd v target⟩

/-- A branch completes at one of its two outcomes, by what its comparison means (R114). -/
theorem completesAt_of_branch_iff {i : Instr} {s : State} {rs1 rs2 : XReg} {imm : Word} {c : Cond} {p : Prop} [Decidable p]
    (h : exec i s = branch c rs1 rs2 imm s) (e : cmp c (s.readX rs1) (s.readX rs2) = true ↔ p) :
    CompletesAt i s (if p then s.pc + imm else s.pc + 4#64) :=
  completesAt_of_branch h (Bool.eq_iff_iff.mpr (e.trans decide_eq_true_iff.symm))

/-- Settles O25: both link pc + 4; JALR's target is read before rd is written, and clearing its bit 0 rounds it down to even. -/
theorem jumps : Obligations.Jumps := fun _ _ _ _ _ _ _ _ _ =>
  ⟨decode_of_encode_eq_encJ rfl rfl, onlyRegister_of_jump rfl rfl,
    decode_of_encode_eq_encI rfl rfl, onlyRegister_of_jump rfl (and_not_one _)⟩

/-- Settles O26: each branch is the shared one at its condition, whose meaning is the comparator's (O14). -/
theorem branches : Obligations.Branches := by
  intro s rs1 rs2 b12 b11 b10_5 b4_1 imm
  obtain ⟨heq, hne, hlt, hge, hltu, hgeu⟩ := branchComparator (s.readX rs1) (s.readX rs2)
  exact ⟨decode_of_encode_eq_encB rfl rfl, completesAt_of_branch_iff rfl heq,
    decode_of_encode_eq_encB rfl rfl, completesAt_of_branch_iff rfl hne,
    decode_of_encode_eq_encB rfl rfl, completesAt_of_branch_iff rfl hlt,
    decode_of_encode_eq_encB rfl rfl, completesAt_of_branch_iff rfl hge,
    decode_of_encode_eq_encB rfl rfl, completesAt_of_branch_iff rfl hltu,
    decode_of_encode_eq_encB rfl rfl, completesAt_of_branch_iff rfl hgeu⟩

end Sys2Proof.Machine

/-! SUPPORT. The loads and stores of spec 43_load_store.md (R161 to R171): the words their rules spell, and the value a load
extends. -/

namespace Sys2Proof

open Laws

/-! ## The words of the S layout (R70): the immediate in two pieces -/

section Words

variable {i : Instr} {rs2 rs1 : BitVec 5} {f3 : BitVec 3} {op : BitVec 7}

/-- The S layout puts the immediate's high seven bits above the registers and its low five below (R70). -/
theorem encS_of_pieces (hi7 : BitVec 7) (lo5 : BitVec 5) :
    encS ((hi7 ++ lo5).signExtend 64) rs2 rs1 f3 op = hi7 ++ rs2 ++ rs1 ++ f3 ++ lo5 ++ op := by
  simp (disch := decide) only [encS, encR, extractLsb'_signExtend, BitVec.extractLsb'_append_eq_left,
    BitVec.extractLsb'_append_eq_right]

/-- A word spelled in the S layout is the one that the encoder gives the instruction with the pieces of the immediate put
together. -/
theorem decode_of_encode_eq_encS {hi7 : BitVec 7} {lo5 : BitVec 5}
    (h : encode i = encS ((hi7 ++ lo5).signExtend 64) rs2 rs1 f3 op) (hwf : i.wf = wfImm12 ((hi7 ++ lo5).signExtend 64)) :
    decode (hi7 ++ rs2 ++ rs1 ++ f3 ++ lo5 ++ op) = .ok i := by
  rw [encS_of_pieces] at h
  exact h ▸ decode_encode i (hwf.trans (wfImm12_signExtend _))

end Words

end Sys2Proof

namespace Sys2Proof.Machine

/-! ## How loads and stores complete (R161 to R171) -/

/-- A load that extends the low `m` bits of what it reads writes the extension of `x`, where `x` is the `m`-bit value of the
bytes in RAM. -/
theorem loadsAs_extend {i : Instr} {s : State} {rd : XReg} {addr : Word} {n m : Nat} {x : BitVec m} (f : BitVec m → Word)
    (hn : IntWidth n) (hm : m ≤ 64) (h : exec i s = load n (fun u => f (u.setWidth m)) rd addr s)
    (hx : BitVec.ofNat 64 (packLittle (s.mem.readBytes addr.toNat n)) = x.setWidth 64) :
    LoadsAs i s rd addr n (f x) (fun u => f (u.setWidth m)) :=
  loadsAs_load hn h (by rw [hx, setWidth_setWidth_self hm])

/-- Settles O27: each load extends the low bits of the little-endian value it reads, and LD, which reads all 64, takes it as
it is. -/
theorem loads : Obligations.Loads := by
  intro s rd rs1 imm12 imm
  have hb := readBytes_byteAt s (s.readX rs1 + imm).toNat
  have hh := readBytes_halfAt s (s.readX rs1 + imm).toNat
  have hw := readBytes_wordAt s (s.readX rs1 + imm).toNat
  exact ⟨decode_of_encode_eq_encI rfl rfl, loadsAs_extend (·.signExtend 64) (by decide) (by decide) rfl hb,
    decode_of_encode_eq_encI rfl rfl, loadsAs_extend (·.signExtend 64) (by decide) (by decide) rfl hh,
    decode_of_encode_eq_encI rfl rfl, loadsAs_extend (·.signExtend 64) (by decide) (by decide) rfl hw,
    decode_of_encode_eq_encI rfl rfl, loadsAs_load (by decide) (exec_ld rd rs1 imm s) (readBytes_doubleAt s _),
    decode_of_encode_eq_encI rfl rfl, loadsAs_extend (·.setWidth 64) (by decide) (by decide) rfl hb,
    decode_of_encode_eq_encI rfl rfl, loadsAs_extend (·.setWidth 64) (by decide) (by decide) rfl hh,
    decode_of_encode_eq_encI rfl rfl, loadsAs_extend (·.setWidth 64) (by decide) (by decide) rfl hw⟩

/-- Settles O28: each store writes the low bytes of the register at its effective address. -/
theorem stores : Obligations.Stores := fun _ _ _ _ _ _ =>
  ⟨decode_of_encode_eq_encS rfl rfl, storesAs_store (by decide) rfl,
    decode_of_encode_eq_encS rfl rfl, storesAs_store (by decide) rfl,
    decode_of_encode_eq_encS rfl rfl, storesAs_store (by decide) rfl,
    decode_of_encode_eq_encS rfl rfl, storesAs_store (by decide) rfl⟩

end Sys2Proof.Machine

/-! SUPPORT. The fences and environment instructions of spec 44_fence_system.md (R172 to R176): the words their rules spell, and
how they complete. -/

namespace Sys2Proof

open Laws

/-- A word of the FENCE layout decodes to FENCE with the fields it spells, except PAUSE's word (R82, R85). -/
theorem decode_encFence (fm pred succ : BitVec 4) (rs1 rd : XReg) :
    decode (encFence fm pred succ rs1.idx rd.idx) =
      if encFence fm pred succ rs1.idx rd.idx = 0x0100000F#32 then .ok .pause else .ok (.fence fm pred succ rs1 rd) := by
  split
  next hpause => exact congrArg decode hpause
  next hne =>
    rw [decode_miscMem (encFence_opcode ..), decodeMiscMem_fence hne (encFence_funct3 ..)]
    simp [rs1X, rdX]

end Sys2Proof

namespace Sys2Proof.Machine

/-- An instruction that only advances the pc completes at pc + 4, changing nothing else. -/
theorem completesAt_of_onlyAdvance {i : Instr} {s : State} (h : exec i s = onlyAdvance s) : CompletesAt i s (s.pc + 4#64) :=
  ⟨_, h, onlyPc_advance s⟩

/-- Settles O29: the words decode by their layouts, PAUSE's out of FENCE's, and each of the five meanings is the default
advance alone. -/
theorem fencesAndEnvironment : Obligations.FencesAndEnvironment := fun _ fm pred succ rs1 rd _ _ =>
  ⟨decode_encFence fm pred succ rs1 rd, ⟨_, decode_of_encode_eq_encI rfl rfl⟩,
    decode_encode .ecall rfl, decode_encode .ebreak rfl,
    completesAt_of_onlyAdvance rfl, completesAt_of_onlyAdvance rfl, completesAt_of_onlyAdvance rfl,
    completesAt_of_onlyAdvance rfl, completesAt_of_onlyAdvance rfl⟩

end Sys2Proof.Machine

/-! SUPPORT. The M extension of spec 45_mul_div.md (R177 to R189): the values its meanings compute in the integers, as operations
on words, and how its thirteen instructions complete under `EXEC_M`. -/

namespace Sys2Proof.Machine

/-! ## The product and its upper half (R177 to R180) -/

section Products

variable (a b : Word)

theorem mulLow_eq_mul {n : Nat} (x y : BitVec n) : mulLow x y = x * y := by
  rw [mulLow, BitVec.ofNat_mul, BitVec.ofNat_toNat, BitVec.ofNat_toNat, BitVec.setWidth_eq, BitVec.setWidth_eq]

/-- Narrowing an integer to 128 bits loses nothing of bits 127:64. -/
theorem extractLsb'_ofInt_upper (p : Int) : (BitVec.ofInt 128 p).extractLsb' 64 64 = BitVec.ofInt 64 (p / 2 ^ 64) := by
  apply BitVec.eq_of_toNat_eq
  rw [BitVec.extractLsb'_toNat, Nat.shiftRight_eq_div_pow, BitVec.toNat_ofInt, BitVec.toNat_ofInt]
  omega

/-- Zero extension keeps the unsigned value. -/
theorem ofInt_toNat_eq_setWidth {n : Nat} (m : Nat) (x : BitVec n) : BitVec.ofInt m x.toNat = x.setWidth m := by
  rw [BitVec.ofInt_natCast, BitVec.ofNat_toNat]

theorem mulHighSS_eq : mulHighSS a b = (a.signExtend 128 * b.signExtend 128).extractLsb' 64 64 := by
  rw [mulHighSS, ← extractLsb'_ofInt_upper, BitVec.ofInt_mul, BitVec.signExtend, BitVec.signExtend]

theorem mulHighSU_eq : mulHighSU a b = (a.signExtend 128 * b.setWidth 128).extractLsb' 64 64 := by
  rw [mulHighSU, ← extractLsb'_ofInt_upper, BitVec.ofInt_mul, ofInt_toNat_eq_setWidth, BitVec.signExtend]

theorem mulHighUU_eq : mulHighUU a b = (a.setWidth 128 * b.setWidth 128).extractLsb' 64 64 := by
  rw [← ofInt_toNat_eq_setWidth, ← ofInt_toNat_eq_setWidth, ← BitVec.ofInt_mul, extractLsb'_ofInt_upper, mulHighUU]
  exact (BitVec.ofInt_natCast 64 _).symm

end Products

/-! ## The remainder from the quotient (R183) -/

/-- The remainder with the dividend's sign is what the quotient rounded towards zero leaves. -/
theorem remSigned_eq {n : Nat} (a b : BitVec n) :
    remSigned a b = if b = 0#n then a
      else if a = BitVec.intMin n ∧ b = BitVec.allOnes n then 0#n
      else BitVec.ofInt n (a.toInt - b.toInt * a.toInt.tdiv b.toInt) := by
  rw [remSigned, Int.tmod_def]

/-! ## The W forms (R185 to R189): each case of the 32-bit result, sign-extended -/

section WordForms

variable (a b : Word)

theorem wordForm_eq (op : BitVec 32 → BitVec 32 → BitVec 32) :
    wordForm op a b = (op (a.setWidth 32) (b.setWidth 32)).signExtend 64 := by
  rw [wordForm, low32_eq_setWidth, low32_eq_setWidth, sext32]

theorem wordForm_mulLow : wordForm mulLow a b = (a.setWidth 32 * b.setWidth 32).signExtend 64 := by
  rw [wordForm_eq, mulLow_eq_mul]

theorem wordForm_divSigned :
    wordForm divSigned a b = if b.setWidth 32 = 0#32 then 0xFFFFFFFFFFFFFFFF#64
      else if a.setWidth 32 = 0x80000000#32 ∧ b.setWidth 32 = 0xFFFFFFFF#32 then 0xFFFFFFFF80000000#64
      else (BitVec.ofInt 32 ((a.setWidth 32).toInt.tdiv (b.setWidth 32).toInt)).signExtend 64 := by
  rw [wordForm_eq, divSigned, apply_ite (BitVec.signExtend 64), apply_ite (BitVec.signExtend 64)]
  rfl

theorem wordForm_divUnsigned :
    wordForm divUnsigned a b = if b.setWidth 32 = 0#32 then 0xFFFFFFFFFFFFFFFF#64
      else (BitVec.ofNat 32 ((a.setWidth 32).toNat / (b.setWidth 32).toNat)).signExtend 64 := by
  rw [wordForm_eq, divUnsigned, apply_ite (BitVec.signExtend 64)]
  rfl

theorem wordForm_remSigned :
    wordForm remSigned a b = if b.setWidth 32 = 0#32 then (a.setWidth 32).signExtend 64
      else if a.setWidth 32 = 0x80000000#32 ∧ b.setWidth 32 = 0xFFFFFFFF#32 then 0#64
      else (BitVec.ofInt 32 ((a.setWidth 32).toInt -
        (b.setWidth 32).toInt * (a.setWidth 32).toInt.tdiv (b.setWidth 32).toInt)).signExtend 64 := by
  rw [wordForm_eq, remSigned_eq, apply_ite (BitVec.signExtend 64), apply_ite (BitVec.signExtend 64)]
  rfl

theorem wordForm_remUnsigned :
    wordForm remUnsigned a b = if b.setWidth 32 = 0#32 then (a.setWidth 32).signExtend 64
      else (BitVec.ofNat 32 ((a.setWidth 32).toNat % (b.setWidth 32).toNat)).signExtend 64 := by
  rw [wordForm_eq, remUnsigned, apply_ite (BitVec.signExtend 64)]

end WordForms

/-! ## How the instructions complete -/

/-- Settles O30: the low half of the product in the integers is the words' product, and its upper half that of the product of
the operands extended to 128 bits. -/
theorem multiplies : Obligations.Multiplies := fun _ rd rs1 rs2 =>
  ⟨decode_encode (.mul rd rs1 rs2) rfl, multipliesAs_mulDiv mulLow rfl (mulLow_eq_mul _ _),
    decode_encode (.mulh rd rs1 rs2) rfl, multipliesAs_mulDiv mulHighSS rfl (mulHighSS_eq _ _),
    decode_encode (.mulhsu rd rs1 rs2) rfl, multipliesAs_mulDiv mulHighSU rfl (mulHighSU_eq _ _),
    decode_encode (.mulhu rd rs1 rs2) rfl, multipliesAs_mulDiv mulHighUU rfl (mulHighUU_eq _ _),
    decode_encode (.mulw rd rs1 rs2) rfl, multipliesAs_mulDiv (wordForm mulLow) rfl (wordForm_mulLow _ _)⟩

/-- Settles O31: DIV and DIVU are the model's division at 64 bits, and the W forms sign-extend each of its cases at 32. -/
theorem divides : Obligations.Divides := fun _ rd rs1 rs2 =>
  ⟨decode_encode (.div rd rs1 rs2) rfl, multipliesAs_mulDiv divSigned rfl rfl,
    decode_encode (.divu rd rs1 rs2) rfl, multipliesAs_mulDiv divUnsigned rfl rfl,
    decode_encode (.divw rd rs1 rs2) rfl, multipliesAs_mulDiv (wordForm divSigned) rfl (wordForm_divSigned _ _),
    decode_encode (.divuw rd rs1 rs2) rfl, multipliesAs_mulDiv (wordForm divUnsigned) rfl (wordForm_divUnsigned _ _)⟩

/-- Settles O32: the signed remainder is p - q * trunc(p / q), and the W forms sign-extend each case of the 32-bit one. -/
theorem remainders : Obligations.Remainders := fun _ rd rs1 rs2 =>
  ⟨decode_encode (.rem rd rs1 rs2) rfl, multipliesAs_mulDiv remSigned rfl (remSigned_eq _ _),
    decode_encode (.remu rd rs1 rs2) rfl, multipliesAs_mulDiv remUnsigned rfl rfl,
    decode_encode (.remw rd rs1 rs2) rfl, multipliesAs_mulDiv (wordForm remSigned) rfl (wordForm_remSigned _ _),
    decode_encode (.remuw rd rs1 rs2) rfl, multipliesAs_mulDiv (wordForm remUnsigned) rfl (wordForm_remUnsigned _ _)⟩

end Sys2Proof.Machine

/-! SUPPORT. The A extension of spec 46_atomic.md (R190 to R211): the words that select no LR, and how its instructions complete
under `EXEC_A`. -/

namespace Sys2Proof

open Laws

/-! ## The words with LR's funct5 (R91): rs2 other than 00000 selects nothing -/

section Words

variable {w : InstrWord} {rs2 : BitVec 5}

theorem decodeAmoWord_none (h5 : func5Of w = 0b00010#5) (h2 : rs2Of w ≠ 0#5) : decodeAmoWord w = none := by
  simp only [decodeAmoWord, h5, if_neg h2]

theorem decodeAmoDoubleword_none (h5 : func5Of w = 0b00010#5) (h2 : rs2Of w ≠ 0#5) : decodeAmoDoubleword w = none := by
  simp only [decodeAmoDoubleword, h5, if_neg h2]

/-- No width has an LR with an operand in rs2 (R190, R192, D14). -/
theorem decodeAmo_none (h5 : func5Of w = 0b00010#5) (h2 : rs2Of w ≠ 0#5) : decodeAmo w = none := by
  unfold decodeAmo
  split
  · exact decodeAmoWord_none h5 h2
  · exact decodeAmoDoubleword_none h5 h2
  · rfl

theorem func5Of_encAmo (f5 : BitVec 5) (aq rl : Bool) (rs2 rs1 : BitVec 5) (f3 : BitVec 3) (rd : BitVec 5) :
    func5Of (encAmo f5 aq rl rs2 rs1 f3 rd) = f5 :=
  (encR_func5 ..).trans (EncodeFitsRow.amo_func5 f5 aq rl)

theorem decode_lr_fault (aq rl : Bool) (rs1 rd : BitVec 5) (f3 : BitVec 3) (h : rs2 ≠ 0#5) : ∃ fields,
    decode (encAmo 0b00010#5 aq rl rs2 rs1 f3 rd) = .error (.noVariant 0x2F#7 fields) := by
  have hop : opcodeOf (encAmo 0b00010#5 aq rl rs2 rs1 f3 rd) = 0x2F#7 := encR_opcode ..
  rw [decode_amo hop, decodeAmo_none (func5Of_encAmo ..) (by rwa [encAmo, encR_rs2])]
  exact ⟨_, rfl⟩

end Words

end Sys2Proof

namespace Sys2Proof.Machine

/-! ## How the instructions complete (R190 to R211) -/

section Completion

variable {i : Instr} {s : State} {rd rs1 rs2 : XReg}

/-- LR.W is a plain load of the word, sign-extended (R190). -/
theorem underExecA_lrWord (h : exec i s = atomic i (loadReserved 4 rd rs1) s) :
    UnderExecA i s (LoadsAs i s rd (s.readX rs1) 4 ((s.wordAt (s.readX rs1).toNat).signExtend 64)
      (fun u => (u.setWidth 32).signExtend 64)) :=
  underExecA_atomic h fun he =>
    loadsAs_extend (·.signExtend 64) (by decide) (by decide) he (readBytes_wordAt s _)

/-- LR.D is a plain load of the doubleword, as it is (R192). -/
theorem underExecA_lrDoubleword (h : exec i s = atomic i (loadReserved 8 rd rs1) s) :
    UnderExecA i s (LoadsAs i s rd (s.readX rs1) 8 (s.doubleAt (s.readX rs1).toNat) (fun u => u)) :=
  underExecA_atomic h fun he =>
    loadsAs_load (by decide) (by rw [he, loadReserved, funext sextBytes_eight]) (readBytes_doubleAt s _)

theorem underExecA_sc {n : Nat} (hn : IntWidth n) (h : exec i s = atomic i (storeConditional n rd rs1 rs2) s) :
    UnderExecA i s (StoresConditionallyAs i s rd (s.readX rs1) n (s.readX rs2)) :=
  underExecA_atomic h (storesConditionallyAs hn)

/-- An AMO on a word updates the word at its address by its operation, as `f` names it (R194 to R202). -/
theorem underExecA_amoWord (op : AmoOp) {f : BitVec 32 → BitVec 32}
    (h : exec i s = atomic i (amo 4 op rd rs1 rs2) s) (hf : ∀ old, amoResult op old ((s.readX rs2).setWidth 32) = f old) :
    UnderExecA i s (UpdatesAs i s rd (s.readX rs1) 4 (s.wordAt (s.readX rs1).toNat) f) :=
  underExecA_atomic h fun he =>
    updatesAs_amo (by decide) he (by rw [readBytes_wordAt]; exact setWidth_setWidth_self (by decide) _) hf

/-- An AMO on a doubleword updates the doubleword at its address by its operation, as `f` names it (R203 to R211). -/
theorem underExecA_amoDoubleword (op : AmoOp) {f : Word → Word}
    (h : exec i s = atomic i (amo 8 op rd rs1 rs2) s) (hf : ∀ old, amoResult op old (s.readX rs2) = f old) :
    UnderExecA i s (UpdatesAs i s rd (s.readX rs1) 8 (s.doubleAt (s.readX rs1).toNat) f) :=
  underExecA_atomic h fun he =>
    updatesAs_amo (by decide) he (by rw [readBytes_doubleAt]; exact BitVec.setWidth_eq _)
      (fun old => (congrArg (amoResult op old) (BitVec.setWidth_eq _)).trans (hf old))

end Completion

/-- Settles O33: LR is the plain load of its width and SC the plain store, and LR's funct5 with a nonzero rs2 selects nothing. -/
theorem loadReservedStoreConditional : Obligations.LoadReservedStoreConditional := fun _ rd rs1 rs2 aq rl =>
  ⟨decode_encode (.lrW rd rs1 aq rl) rfl, underExecA_lrWord rfl,
    decode_encode (.lrD rd rs1 aq rl) rfl, underExecA_lrDoubleword rfl,
    decode_encode (.scW rd rs1 rs2 aq rl) rfl, underExecA_sc (by decide) rfl,
    decode_encode (.scD rd rs1 rs2 aq rl) rfl, underExecA_sc (by decide) rfl,
    fun h f3 _ => decode_lr_fault aq rl rs1.idx rd.idx f3 h⟩

/-- Settles O34: each is the shared read, operation and write at width 4, and its operation on the word is the rule's. -/
theorem amoWords : Obligations.AmoWords := fun _ rd rs1 rs2 aq rl =>
  ⟨decode_encode (.amoswapW rd rs1 rs2 aq rl) rfl, underExecA_amoWord .swap rfl fun _ => rfl,
    decode_encode (.amoaddW rd rs1 rs2 aq rl) rfl, underExecA_amoWord .add rfl fun _ => rfl,
    decode_encode (.amoxorW rd rs1 rs2 aq rl) rfl, underExecA_amoWord .xor rfl fun _ => rfl,
    decode_encode (.amoandW rd rs1 rs2 aq rl) rfl, underExecA_amoWord .and rfl fun _ => rfl,
    decode_encode (.amoorW rd rs1 rs2 aq rl) rfl, underExecA_amoWord .or rfl fun _ => rfl,
    decode_encode (.amominW rd rs1 rs2 aq rl) rfl, underExecA_amoWord .min rfl fun _ => rfl,
    decode_encode (.amomaxW rd rs1 rs2 aq rl) rfl, underExecA_amoWord .max rfl fun _ => rfl,
    decode_encode (.amominuW rd rs1 rs2 aq rl) rfl, underExecA_amoWord .minu rfl fun _ => rfl,
    decode_encode (.amomaxuW rd rs1 rs2 aq rl) rfl, underExecA_amoWord .maxu rfl fun _ => rfl⟩

/-- Settles O35: each is the shared read, operation and write at width 8, and its operation on the doubleword is the rule's. -/
theorem amoDoublewords : Obligations.AmoDoublewords := fun _ rd rs1 rs2 aq rl =>
  ⟨decode_encode (.amoswapD rd rs1 rs2 aq rl) rfl, underExecA_amoDoubleword .swap rfl fun _ => rfl,
    decode_encode (.amoaddD rd rs1 rs2 aq rl) rfl, underExecA_amoDoubleword .add rfl fun _ => rfl,
    decode_encode (.amoxorD rd rs1 rs2 aq rl) rfl, underExecA_amoDoubleword .xor rfl fun _ => rfl,
    decode_encode (.amoandD rd rs1 rs2 aq rl) rfl, underExecA_amoDoubleword .and rfl fun _ => rfl,
    decode_encode (.amoorD rd rs1 rs2 aq rl) rfl, underExecA_amoDoubleword .or rfl fun _ => rfl,
    decode_encode (.amominD rd rs1 rs2 aq rl) rfl, underExecA_amoDoubleword .min rfl fun _ => rfl,
    decode_encode (.amomaxD rd rs1 rs2 aq rl) rfl, underExecA_amoDoubleword .max rfl fun _ => rfl,
    decode_encode (.amominuD rd rs1 rs2 aq rl) rfl, underExecA_amoDoubleword .minu rfl fun _ => rfl,
    decode_encode (.amomaxuD rd rs1 rs2 aq rl) rfl, underExecA_amoDoubleword .maxu rfl fun _ => rfl⟩

end Sys2Proof.Machine

/-! SUPPORT. The outcomes of a step by the class of its instruction (spec 60_exceptions.md R274, R291); construction, its image
and the first fetch (spec 70_reset_and_hazards.md R292 to R295); and a store over an instruction that runs next (R297). -/

namespace Sys2Proof.Machine

/-! ## No step is refused (R274) -/

theorem exec_ne_refused (i : Instr) (s : State) (r : Refusal) : exec i s ≠ .refused r := by
  rcases exec_canOnly i s with ⟨t, h, -⟩ | ⟨e, h⟩
  · rw [h]; exact nofun
  · rw [h]; exact nofun

/-- Settles O40: a step is a fetch fault, a decode fault, or what `exec` answers. -/
theorem stepIsNeverRefused : Obligations.StepIsNeverRefused := by
  intro s r
  rcases step_cases s with ⟨f, -, h⟩ | ⟨v, s', d, -, -, h⟩ | ⟨v, s', i, -, -, h⟩
  · rw [h]; exact nofun
  · rw [h]; exact nofun
  · rw [h]; exact exec_ne_refused i s' r

/-! ## The errors of each class (R291) -/

section ByClass

variable {i : Instr} {s : State}

theorem exec_mulDiv_standard (h : i.kind = .mulDiv) (hm : s.execM = .standard) : ∃ t, exec i s = .next t := by
  obtain ⟨op, rd, rs1, rs2, he⟩ := exec_mulDiv h s
  exact ⟨_, he.trans (mulDiv_standard hm ..)⟩

theorem exec_mulDiv_unimplemented (h : i.kind = .mulDiv) (hm : s.execM = .unimplemented) :
    exec i s = .fault (.execute (.unimplemented (.instr i))) := by
  obtain ⟨op, rd, rs1, rs2, he⟩ := exec_mulDiv h s
  exact he.trans (mulDiv_unimplemented hm ..)

theorem exec_atomic_plain (h : i.kind = .atomic) (ha : s.execA = .plain) : NextOrDeviceFault (exec i s) := by
  obtain ⟨p, he, hp⟩ := exec_atomic h s
  rwa [he, atomic_plain ha]

theorem exec_atomic_unimplemented (h : i.kind = .atomic) (ha : s.execA = .unimplemented) :
    exec i s = .fault (.execute (.unimplemented (.instr i))) := by
  obtain ⟨p, he, -⟩ := exec_atomic h s
  exact he.trans (atomic_unimplemented ha ..)

end ByClass

/-- A word that decodes to no instruction is `NoFormat` or `NoVariant` (R101). -/
theorem decode_error_of_ne_ok {w : InstrWord} (h : ∀ i, decode w ≠ .ok i) :
    ∃ d, decode w = .error d ∧ ((∃ op, d = .noFormat op) ∨ ∃ op fields, d = .noVariant op fields) := by
  cases hd : decode w with
  | ok i => exact absurd hd (h i)
  | error d =>
    rcases decode_error_cases hd with ⟨rfl, -⟩ | ⟨f, -, rfl⟩
    · exact ⟨_, rfl, .inl ⟨_, rfl⟩⟩
    · exact ⟨_, rfl, .inr ⟨_, _, rfl⟩⟩

/-- Settles O41: row by row of R291, the classes from what `exec` is on each, the undecodable words from the decode faults. -/
theorem faultsByClass : Obligations.FaultsByClass := by
  refine ⟨fun i s => ⟨?_, ?_, exec_mulDiv_standard, exec_mulDiv_unimplemented, exec_atomic_plain, exec_atomic_unimplemented,
    fun h => exec_float h s⟩, fun w d s => rfl, fun w hw => ?_⟩
  · rintro (h | h | h)
    · exact exec_integer h s
    · exact exec_control h s
    · exact exec_fenceSystem h s
  · rintro (h | h)
    · exact exec_load h s
    · exact exec_store h s
  · obtain ⟨d, hd, hkind⟩ := decode_error_of_ne_ok hw
    have hstep : ∀ (s s' : State) (v : Word), memRead s s.pc 4 = .ok (v, s') → v.extractLsb' 0 32 = w →
        step s = .fault (.decode d) := by
      rintro s s' v hm rfl
      exact step_of_decode_error hm hd
    rcases hkind with ⟨op, rfl⟩ | ⟨op, fields, rfl⟩
    · exact ⟨.inl ⟨op, hd⟩, fun s s' v hm hv => .inl ⟨op, hstep s s' v hm hv⟩⟩
    · exact ⟨.inr ⟨op, fields, hd⟩, fun s s' v hm hv => .inr ⟨op, fields, hstep s s' v hm hv⟩⟩

/-! ## The first fetch (R294) -/

/-- Settles O39: the constructed pc is `RESET_PC`, and where no entry owns it the fetch there is a miss. -/
theorem firstFetchAtResetPc : Obligations.FirstFetchAtResetPc := by
  intro p s h
  obtain ⟨-, rfl⟩ := construct_ok h
  exact ⟨rfl, fun f hf => step_of_memRead_error hf,
    fun hno => step_of_memRead_error (busReadInt_miss (resolve_of_no_owner hno) ..)⟩

/-! ## The image (R295) -/

/-- What the contents hold before the image, and every write of a listed byte to a RAM keeps, holds after the image. -/
theorem loadImage_induction {motive : Memory → Prop} {bus : Bus} {m : Memory} {cs : List Host.Cell} (start : motive m)
    (write : ∀ m, ∀ c ∈ cs, ramAt bus c.1 = true → motive m → motive (m.write c.1 c.2)) : motive (loadImage bus m cs) := by
  induction cs generalizing m with
  | nil => exact start
  | cons c cs ih =>
    refine ih ?_ fun m' d hd => write m' d (List.mem_cons_of_mem c hd)
    split
    case isTrue hram => exact write m c List.mem_cons_self hram start
    case isFalse => exact start

theorem loadImage_wf {bus : Bus} {m : Memory} (hm : Memory.wf m) (cs : List Host.Cell) : Memory.wf (loadImage bus m cs) :=
  loadImage_induction hm fun _ c _ _ h => Memory.write_wf h c.1 c.2

theorem loadImage_owned {bus : Bus} {m : Memory} (hm : ∀ c ∈ m, ramAt bus c.1 = true) (cs : List Host.Cell) :
    ∀ c ∈ loadImage bus m cs, ramAt bus c.1 = true := by
  refine loadImage_induction (motive := fun m => ∀ c ∈ m, ramAt bus c.1 = true) hm fun m' d _ hd h c hc => ?_
  rcases Memory.mem_write hc with rfl | hc
  · exact hd
  · exact h c hc

/-- An address that the image does not list reads as before. -/
theorem read_loadImage_of_unlisted {bus : Bus} {m : Memory} {cs : List Host.Cell} {a : Nat} (hm : Memory.wf m)
    (ha : ∀ c ∈ cs, c.1 ≠ a) : (loadImage bus m cs).read a = m.read a := by
  have hread : Memory.wf (loadImage bus m cs) ∧ (loadImage bus m cs).read a = m.read a := by
    refine loadImage_induction (motive := fun m' => Memory.wf m' ∧ m'.read a = m.read a) ⟨hm, rfl⟩ fun m' c hc _ h => ?_
    obtain ⟨hwf, heq⟩ := h
    exact ⟨Memory.write_wf hwf c.1 c.2, by rw [Memory.read_write hwf, if_neg (ha c hc).symm, heq]⟩
  exact hread.2

/-- An address of a RAM that the image lists once reads as the listed byte. -/
theorem read_loadImage_of_listed {bus : Bus} {m : Memory} {cs : List Host.Cell} {a : Nat} {b : Byte} (hm : Memory.wf m)
    (hcs : cs.Pairwise fun c d => c.1 ≠ d.1) (hc : (a, b) ∈ cs) (hram : ramAt bus a = true) :
    (loadImage bus m cs).read a = b := by
  induction cs generalizing m with
  | nil => cases hc
  | cons c cs ih =>
    obtain ⟨hne, hcs⟩ := List.pairwise_cons.1 hcs
    rcases List.mem_cons.1 hc with rfl | hc
    · rw [loadImage, if_pos hram, read_loadImage_of_unlisted (Memory.write_wf hm a b) fun d hd => (hne d hd).symm,
        Memory.read_write hm, if_pos rfl]
    · refine ih ?_ hcs hc
      split
      · exact Memory.write_wf hm c.1 c.2
      · exact hm

theorem Memory.wf_nil : Memory.wf [] := ⟨List.Pairwise.nil, nofun⟩

/-- Settles O48: from RAMs whose every byte reads 0, the image places the bytes it lists and no other. -/
theorem constructionPlacesTheImage : Obligations.ConstructionPlacesTheImage := by
  intro p s h
  obtain ⟨-, rfl⟩ := construct_ok h
  exact ⟨fun a => read_loadImage_of_unlisted Memory.wf_nil, fun a b => read_loadImage_of_listed Memory.wf_nil⟩

/-! ## The invariant after construction (R292, R293) -/

/-- Settles O44: the map was checked, the image keeps the RAM contents canonical and inside RAMs, and x0's slot is 0. -/
theorem constructionMeetsInvariant : Obligations.ConstructionMeetsInvariant := by
  intro p s h
  obtain ⟨hwf, rfl⟩ := construct_ok h
  exact ⟨loadImage_wf Memory.wf_nil p.image, hwf, loadImage_owned (List.forall_mem_nil _) p.image, rfl⟩

theorem construct_reference : construct Platform.reference = .ok State.reset := if_pos rfl

/-- Settles O43: the reset state is constructed, and so meets the invariant. -/
theorem resetMeetsInvariant : Obligations.ResetMeetsInvariant :=
  ⟨constructionMeetsInvariant _ _ construct_reference, construct_reference⟩

/-! ## A store over an instruction that runs next (R60, R297) -/

/-- What a step does with the word it has fetched: it runs the decoded instruction or reports the decode fault (R121). -/
def runWord (w : InstrWord) (s : State) : Host.Outcome State Fault Refusal :=
  match decode w with
  | .ok i => exec i s
  | .error d => .fault (.decode d)

/-- Where the pc is at a word of a RAM, the step runs that word. -/
theorem step_eq_runWord {s : State} {a : Word} {w : InstrWord} (hpc : s.pc = a) (hr : InRam s a.toNat 4)
    (hw : s.wordAt a.toNat = w) : step s = runWord w s := by
  subst hpc hw
  cases hd : decode (s.wordAt s.pc.toNat) with
  | ok i => rw [step_of_inRam hr hd, runWord, hd]
  | error d =>
    have hm := memRead_inRam (n := 4) (by decide) hr
    rw [readBytes_wordAt] at hm
    rw [runWord, hd]
    refine step_of_decode_error hm ?_
    rwa [← BitVec.setWidth_eq_extractLsb' (by decide), setWidth_setWidth_self (by decide)]

@[simp] theorem State.advance_wordAt (s : State) (a : Nat) : s.advance.wordAt a = s.wordAt a := rfl

/-- The four bytes of a value just stored are its low word. -/
theorem OnlyBytes.wordAt_eq {s t : State} {a : Nat} {v pc : Word} (h : OnlyBytes s t a 4 v pc) :
    t.wordAt a = v.extractLsb' 0 32 := by
  have h0 := h.stored 0 (by decide)
  have h1 := h.stored 1 (by decide)
  have h2 := h.stored 2 (by decide)
  have h3 := h.stored 3 (by decide)
  rw [Nat.add_zero] at h0
  rw [State.wordAt, h0, h1, h2, h3]
  rw [Laws.fields_join (lo := 16) (l2 := 8), Laws.fields_join (lo := 8) (l2 := 8), Laws.fields_join (lo := 0) (l2 := 8)]

/-- SW to four bytes of a RAM goes on at `pc + 4` with the low word of rs2 there (R170). -/
theorem exec_sw_wordAt {s : State} {rs1 rs2 : XReg} {imm a : Word} (hm : Memory.wf s.mem) (hr : InRam s a.toNat 4)
    (ha : s.readX rs1 + imm = a) : ∃ t, exec (.sw rs1 rs2 imm) s = .next t ∧ t.pc = s.pc + 4#64 ∧ InRam t a.toNat 4 ∧
      t.wordAt a.toNat = (s.readX rs2).extractLsb' 0 32 := by
  subst ha
  obtain ⟨hstore, -, -⟩ : StoresAs (.sw rs1 rs2 imm) s (s.readX rs1 + imm) 4 (s.readX rs2) := storesAs_store (by decide) rfl
  obtain ⟨t, ht, ho⟩ := hstore hm hr
  exact ⟨t, ht, ho.pc, hr.of_bus_eq ho.platform.bus, ho.wordAt_eq⟩

/-- Settles O59: the step at the stored word fetches it from the RAM, and FENCE.I between them only advances the pc. -/
theorem storeIsSeenByTheNextFetch : Obligations.StoreIsSeenByTheNextFetch := by
  intro s rs1 rs2 imm hm
  refine ⟨fun hr ha => ?_, fun hr ha => ?_⟩
  · obtain ⟨t, ht, hpc, hrt, hword⟩ := exec_sw_wordAt (rs2 := rs2) hm hr ha
    exact ⟨t, ht, step_eq_runWord hpc hrt hword⟩
  · obtain ⟨t, ht, hpc, hrt, hword⟩ := exec_sw_wordAt (rs2 := rs2) hm hr ha
    have hpc' : t.advance.pc = s.pc + 8#64 := by
      rw [State.advance_pc, hpc, BitVec.add_assoc]
      rfl
    exact ⟨t, t.advance, ht, rfl, step_eq_runWord hpc' (hrt.of_bus_eq t.advance_bus) ((t.advance_wordAt _).trans hword)⟩

end Sys2Proof.Machine
